-- ==== Sys2Proof/Word.lean ====
section
/-! DEFINITION. The words the block's ports carry: the raw sample, the event word, and a byte of its serialised form. -/

namespace Sys2Proof

/-- `RAW_WIDTH` = 10: a raw ADC sample (00_scope.md R8; 30_encoding.md R64). Every value of the type is a legal sample. -/
abbrev RawSample := BitVec 10

/-- The 12-bit event word `ev[11:0]` (30_encoding.md R61). -/
abbrev EventWord := BitVec 12

/-- One byte of a serialised event word; not part of the hardware (20_memory.md R46). -/
abbrev Byte := BitVec 8

end Sys2Proof
end

