-- ==== Sys2Proof/Machine/Constants.lean ====
section
/-! DEFINITION. The constants of 00_scope.md R8, each named once (93_implementation_defined.md I6). -/

namespace Sys2Proof.Machine

/-- `BATCH`: samples per averaged batch. -/
def batchSize : Nat := 20

/-- `SPINUP_LIMIT`: FULLSPEED ends when the spin-up counter is above it. -/
def spinupLimit : Nat := 32

/-- `MIN_DUTY`: duty percent at the low threshold. -/
def minDuty : Int := 40

/-- `SLOPE`: duty percent per Temperature unit above the low threshold. -/
def dutySlope : Int := 2

/-- The percent the duty mapping is clamped at (42_actuator.md R120). -/
def fullPercent : Int := 100

/-- `HYST`: the hysteresis margin. -/
def hysteresis : Int := 2

/-- `DUTY_MAX`: the maximum 8-bit duty. -/
def dutyMax : BitVec 8 := 255

/-- `REPORT_PERIOD`: ticks per report event. -/
def reportPeriod : Nat := 32

end Sys2Proof.Machine
end

