-- ==== Sys2Proof/Config.lean ====
section
/-! DEFINITION. The build-time parameters of 00_scope.md R9. They are fixed for one machine and no event changes them
(10_state.md R33). The spec leaves no undefined value, so there is no free value here (93_implementation_defined.md). -/

namespace Sys2Proof.Config

/-- `VARIANT` (00_scope.md R3). -/
inductive Variant where
  | aDuty
  | bTwoStage
  deriving DecidableEq, Repr

/-- The numeric parameters of 00_scope.md R9. The legal ranges of R9 are exactly the signed values of these widths, so
every value of this type is a legal build and no other build can be written (log entry 2, DESIGN CHOICE, safe). -/
structure Build where
  /-- `CAL_OFFSET`, in [-1024, 1023]. -/
  calOffset : BitVec 11
  /-- `LOW_TH`, in [-32768, 32767]. -/
  lowTh : BitVec 16
  /-- `HIGH_TH`, in [-32768, 32767]. -/
  highTh : BitVec 16
  deriving DecidableEq, Repr

/-- `CAL_OFFSET` as a mathematical integer (00_scope.md R12). -/
def Build.cal (b : Build) : Int := b.calOffset.toInt

/-- `LOW_TH` as a mathematical integer (00_scope.md R12). -/
def Build.low (b : Build) : Int := b.lowTh.toInt

/-- `HIGH_TH` as a mathematical integer (00_scope.md R12). -/
def Build.high (b : Build) : Int := b.highTh.toInt

/-- The reference configuration of 00_scope.md R9, which the vectors of 95_test_vectors.md use. -/
def reference : Build := ⟨-3, 298, 328⟩

end Sys2Proof.Config
end

