-- ==== Sys2Proof/Machine/State.lean ====
section
/-! DEFINITION. The state of the block, as plain data: every register of 10_state.md R20, the build parameters that travel
with it, the strobes of the last step, and the events waiting to be answered. -/

namespace Sys2Proof.Machine

/-- The ControllerState (10_state.md R23). -/
inductive Phase where
  | startup
  | fullspeed
  | running
  | off
  deriving DecidableEq, Repr

/-- Variant B's discrete level (10_state.md R31). -/
inductive Level where
  | stopped
  | half
  | full
  /-- The code 2'b11, which no rule writes (R31) and which drives both pins to 0 (42_actuator.md R119). -/
  | unused
  deriving DecidableEq, Repr

/-- The level registers of the one variant that is built (10_state.md R20: `duty` and `force_full` are "variant A only",
`level` is "variant B only"). Which shape a state has IS the parameter `VARIANT` (log entry 3, DESIGN CHOICE, safe). -/
inductive Actuator where
  /-- Variant A: `duty` (R29) and `force_full` (R30). -/
  | pwm (duty : BitVec 8) (forceFull : Bool)
  /-- Variant B: `level` (R31). -/
  | twoStage (level : Level)
  deriving DecidableEq, Repr

/-- The two strobe outputs of one step (30_encoding.md R62). -/
structure Strobes where
  /-- `conv_start`. -/
  convStart : Bool
  /-- `report`. -/
  report : Bool
  deriving DecidableEq, Repr

/-- The machine. -/
structure State where
  /-- The build parameters (00_scope.md R9); no event changes them (10_state.md R33; log entry 2). -/
  build : Config.Build
  /-- `st` (10_state.md R23). -/
  st : Phase
  /-- `temp`, 16-bit two's complement (10_state.md R24). -/
  temp : BitVec 16
  /-- `acc_sum`, 16-bit unsigned (10_state.md R25). -/
  accSum : BitVec 16
  /-- `acc_cnt`, 5-bit unsigned (10_state.md R26). -/
  accCnt : BitVec 5
  /-- `spin_cnt`, 8-bit unsigned (10_state.md R27). -/
  spinCnt : BitVec 8
  /-- `rpt_cnt`, 5-bit unsigned (10_state.md R28). -/
  rptCnt : BitVec 5
  /-- `duty` and `force_full`, or `level` (10_state.md R29 to R31). -/
  act : Actuator
  /-- The MODEL's own field: the strobes as the step that led here drove them. No rule reads it (10_state.md R32: the
  strobes "are not state"; log entry 4, DESIGN CHOICE, safe). -/
  out : Strobes
  /-- The MODEL's own field: event words delivered to the ports and not yet answered, oldest first (30_encoding.md R61;
  log entry 1, DESIGN CHOICE, safe). -/
  pending : List EventWord
  deriving DecidableEq, Repr

/-- What stops the machine with a fault: nothing. "The block raises no synchronous exception and has no cause codes. No step
has an error outcome" (60_exceptions.md R130). The type has no constructor, so no definition can raise a fault. -/
inductive Fault where
  deriving DecidableEq, Repr

/-- Why the model would give no meaning to an event. -/
inductive Refusal where
  /-- Raised only by an arm of `exec` for an event that has no meaning yet. Safe. No arm raises it now. -/
  | notModelled (mnemonic : String)
  deriving DecidableEq, Repr

/-- `VARIANT`, read off the level registers the block is built with (00_scope.md R3). -/
def Actuator.variant : Actuator → Config.Variant
  | .pwm _ _ => .aDuty
  | .twoStage _ => .bTwoStage

/-- The variant the machine is built as. -/
def State.variant (s : State) : Config.Variant := s.act.variant

/-- The level registers after reset (70_reset_and_hazards.md R150). -/
def Actuator.atReset : Config.Variant → Actuator
  | .aDuty => .pwm 0 false
  | .bTwoStage => .twoStage .stopped

/-- The machine right after reset, for any build (70_reset_and_hazards.md R150), with no event waiting. -/
def State.resetFor (variant : Config.Variant) (build : Config.Build) : State where
  build := build
  st := .startup
  temp := 0
  accSum := 0
  accCnt := 0
  spinCnt := 0
  rptCnt := 0
  act := Actuator.atReset variant
  out := ⟨false, false⟩
  pending := []

/-- The machine right after reset: every register as 70_reset_and_hazards.md R150 gives it. The build is the reference
configuration of 00_scope.md R9 in variant A (log entries 2 and 3, DESIGN CHOICE). -/
def State.reset : State := State.resetFor .aDuty Config.reference

end Sys2Proof.Machine
end

