-- ==== Sys2Proof/Machine/Ops.lean ====
section
/-! DEFINITION. The named operations over registers: storing an integer in a register of a width (00_scope.md R12), one
setter per register, and RESET as one shared operation. The block has no memory (20_memory.md R45) and no exceptions
(60_exceptions.md R130, R135), so there is no operation for either. -/

namespace Sys2Proof.Machine

/-! ## Storing an integer (00_scope.md R12)

"Every rule states the range of the stored value, and the ranges of rule R9 guarantee it fits, so no store wraps." In a state
no run reaches a value may not fit; there the register keeps its low bits (log entry 6, DEDUCED). -/

/-- `zext_n(v)`: `v` taken as an `n`-bit unsigned value. -/
def zext (n : Nat) (v : Nat) : BitVec n := BitVec.ofNat n v

/-- `sext_n(v)`: `v` taken as an `n`-bit two's-complement value. -/
def sext (n : Nat) (v : Int) : BitVec n := BitVec.ofInt n v

/-! ## One setter per register -/

/-- Write `st`. -/
def State.setSt (s : State) (v : Phase) : State := { s with st := v }

/-- Write `temp`, whole (20_memory.md R49). -/
def State.setTemp (s : State) (v : BitVec 16) : State := { s with temp := v }

/-- Write `acc_sum`. -/
def State.setAccSum (s : State) (v : BitVec 16) : State := { s with accSum := v }

/-- Write `acc_cnt`. -/
def State.setAccCnt (s : State) (v : BitVec 5) : State := { s with accCnt := v }

/-- Write `spin_cnt`. -/
def State.setSpinCnt (s : State) (v : BitVec 8) : State := { s with spinCnt := v }

/-- Write `rpt_cnt`. -/
def State.setRptCnt (s : State) (v : BitVec 5) : State := { s with rptCnt := v }

/-- Write the level registers. -/
def State.setAct (s : State) (v : Actuator) : State := { s with act := v }

/-- Drive the strobe outputs of this step. -/
def State.setOut (s : State) (v : Strobes) : State := { s with out := v }

/-- Replace the waiting events. -/
def State.setPending (s : State) (v : List EventWord) : State := { s with pending := v }

/-- `out.conv_start := 0 ; out.report := 0`: what every step but a TICK drives (30_encoding.md R62, R66). -/
def State.quiet (s : State) : State := s.setOut ⟨false, false⟩

/-- RESET (70_reset_and_hazards.md R150): every register to its reset value. The one operation that "plays the part of a
trap" (60_exceptions.md R135). Nothing survives it (R151) but what is no register: the build, and the events still to come. -/
def State.resetBlock (s : State) : State := (State.resetFor s.variant s.build).setPending s.pending

/-- Sequencing of outcomes. -/
def andThen {σ τ φ ρ : Type} (o : Host.Outcome σ φ ρ) (f : σ → Host.Outcome τ φ ρ) : Host.Outcome τ φ ρ :=
  match o with
  | .next s => f s
  | .fault r => .fault r
  | .refused r => .refused r

end Sys2Proof.Machine
end

