-- ==== Sys2Proof/Machine/Operands.lean ====
section
/-! DEFINITION. The one operand form of the event set, SAMPLE's raw field, and the register values the rules compute with. -/

namespace Sys2Proof.Machine

/-- `raw = zext_16(ev[9:0])`, in [0, 1023] (30_encoding.md R64). -/
def rawValue (raw : RawSample) : Nat := (raw.setWidth 16).toNat

/-- `temp` as the signed value the rules compare (00_scope.md R12; 10_state.md R24). -/
def State.temperature (s : State) : Int := s.temp.toInt

end Sys2Proof.Machine
end

