-- ==== Sys2Proof/Machine/Driver.lean ====
section
/-! DEFINITION. pwm_duty_or_two_stage_driver: the duty mapping (42_actuator.md R120, R121) and the output ports of a step
(30_encoding.md R62), functions of the state the step leaves (42_actuator.md R115). -/

namespace Sys2Proof.Machine

/-! ## Variant A duty mapping -/

/-- `duty_pct(temp) = min((temp - LOW_TH) * SLOPE + MIN_DUTY, 100)` (42_actuator.md R120). -/
def dutyPct (temp low : Int) : Int := min ((temp - low) * dutySlope + minDuty) fullPercent

/-- `duty8(p) = (p * 255) div 100`, truncating (42_actuator.md R121). -/
def duty8 (p : Nat) : Nat := p * dutyMax.toNat / fullPercent.toNat

/-- The regulated duty in the band between the thresholds (41_controller.md R96). -/
def bandDuty (temp low : Int) : BitVec 8 := zext 8 (duty8 (dutyPct temp low).toNat)

/-! ## Encodings -/

/-- The encoding of `st` (10_state.md R23). -/
def Phase.bits : Phase → BitVec 2
  | .startup => 0b00#2
  | .fullspeed => 0b01#2
  | .running => 0b10#2
  | .off => 0b11#2

/-- The encoding of `level` (10_state.md R31). -/
def Level.bits : Level → BitVec 2
  | .stopped => 0b00#2
  | .half => 0b01#2
  | .full => 0b10#2
  | .unused => 0b11#2

/-! ## Pins -/

/-- The actuator outputs of the variant that is built (30_encoding.md R62). -/
inductive Pins where
  /-- Variant A: `pwm_force_full`, `pwm_duty`. -/
  | pwm (forceFull : Bool) (duty : BitVec 8)
  /-- Variant B: `pin_half`, `pin_full`. -/
  | twoStage (half full : Bool)
  deriving DecidableEq, Repr

/-- `pin_half` (42_actuator.md R118). -/
def Level.pinHalf : Level → Bool
  | .half => true
  | .stopped => false
  | .full => false
  | .unused => false

/-- `pin_full` (42_actuator.md R118). -/
def Level.pinFull : Level → Bool
  | .full => true
  | .stopped => false
  | .half => false
  | .unused => false

/-- `apply(level)`: the pins as a pure function of the level registers (42_actuator.md R115, R116, R118). -/
def Actuator.pins : Actuator → Pins
  | .pwm duty forceFull => .pwm forceFull duty
  | .twoStage level => .twoStage level.pinHalf level.pinFull

/-- `pwm_eff_duty` (42_actuator.md R117). -/
def effDuty (duty : BitVec 8) (forceFull : Bool) : BitVec 8 := if forceFull then dutyMax else duty

/-- What `stat_level` shows for variant B's level (60_exceptions.md R142). -/
def Level.shown : Level → BitVec 8
  | .stopped => 0
  | .half => 50
  | .full => 100
  | .unused => 0

/-- `stat_level` (60_exceptions.md R142). -/
def Actuator.statLevel : Actuator → BitVec 8
  | .pwm duty forceFull => effDuty duty forceFull
  | .twoStage level => level.shown

/-! ## All output ports -/

/-- The output ports of 30_encoding.md R62. -/
structure Outputs where
  convStart : Bool
  report : Bool
  pins : Pins
  statState : BitVec 2
  statTemp : BitVec 16
  statLevel : BitVec 8
  deriving DecidableEq, Repr

/-- The outputs of the step that left this state: levels from its registers, strobes as that step drove them
(30_encoding.md R62; 60_exceptions.md R142). -/
def State.outputs (s : State) : Outputs where
  convStart := s.out.convStart
  report := s.out.report
  pins := s.act.pins
  statState := s.st.bits
  statTemp := s.temp
  statLevel := s.act.statLevel

end Sys2Proof.Machine
end

