-- ==== Sys2Proof/Machine/Flags.lean ====
section
/-! DEFINITION. The conditions the rules branch on. The block has no status flags (10_state.md R32); these are comparisons of
registers and parameters, all on mathematical integers (00_scope.md R12). -/

namespace Sys2Proof.Machine

/-- `temp = 0`: Temperature is at its uninitialized sentinel (40_sampler.md R77). -/
def State.atSentinel (s : State) : Bool := decide (s.temp = 0)

/-- `temp < LOW_TH` (41_controller.md R95). -/
def State.belowLow (s : State) : Bool := decide (s.temperature < s.build.low)

/-- `temp >= HIGH_TH` (41_controller.md R96, R97). -/
def State.atOrAboveHigh (s : State) : Bool := decide (s.temperature ≥ s.build.high)

/-- `temp < HIGH_TH - 2`: below variant B's sticky band (41_controller.md R97). -/
def State.belowStickyBand (s : State) : Bool := decide (s.temperature < s.build.high - hysteresis)

/-- `temp > LOW_TH + 2`: OFF is left (41_controller.md R98). -/
def State.aboveRestart (s : State) : Bool := decide (s.temperature > s.build.low + hysteresis)

end Sys2Proof.Machine
end

