-- ==== Sys2Proof/Machine/Controller.lean ====
section
/-! DEFINITION. controller_fsm: TICK (41_controller.md R90 to R100). -/

namespace Sys2Proof.Machine

/-! ## Variant-specific actuation (00_scope.md R19: one function selected by `VARIANT`) -/

/-- Full output forced: variant A `force_full <- 1` with `duty` not written, variant B `level <- FULL` (R92). -/
def Actuator.forced : Actuator → Actuator
  | .pwm duty _ => .pwm duty true
  | .twoStage _ => .twoStage .full

/-- `exit_FULLSPEED`: variant A `duty <- 255 ; force_full <- 0`, variant B no write (R94). -/
def Actuator.regulated : Actuator → Actuator
  | .pwm _ _ => .pwm dutyMax false
  | .twoStage level => .twoStage level

/-- The output turned off: variant A `duty <- 0 ; force_full <- 0`, variant B `level <- STOPPED` (R95). -/
def Actuator.stopped : Actuator → Actuator
  | .pwm _ _ => .pwm 0 false
  | .twoStage _ => .twoStage .stopped

/-- `running_A`: the duty at or above the low threshold (R96). -/
def runningDuty (s : State) : BitVec 8 :=
  if s.atOrAboveHigh then dutyMax else bandDuty s.temperature s.build.low

/-- `running_B`: the level at or above the low threshold, sticky in the band (R97). -/
def runningLevel (level : Level) (s : State) : Level :=
  if s.atOrAboveHigh then .full else if s.belowStickyBand then .half else level

/-- Actuation in RUNNING at or above the low threshold: `running_A` or `running_B` (R96, R97). `running_A` writes `duty` only
(log entry 10). -/
def runningActuator (s : State) : Actuator :=
  match s.act with
  | .pwm _ forceFull => .pwm (runningDuty s) forceFull
  | .twoStage level => .twoStage (runningLevel level s)

/-! ## State arms -/

/-- `arm_STARTUP` (R92). -/
def armStartup (s : State) : State :=
  ((s.setAct s.act.forced).setSpinCnt 0).setSt .fullspeed

/-- `arm_FULLSPEED` (R93, R94): the counter is incremented before the comparison. -/
def armFullspeed (s : State) : State :=
  let count := s.spinCnt.toNat + 1
  if count > spinupLimit then
    ((s.setSpinCnt (zext 8 count)).setSt .running).setAct s.act.regulated
  else s.setSpinCnt (zext 8 count)

/-- `arm_RUNNING` (R95, R96, R97): below-low first, then at-or-above-high, then the band (R105). -/
def armRunning (s : State) : State :=
  if s.belowLow then (s.setAct s.act.stopped).setSt .off else s.setAct (runningActuator s)

/-- `arm_OFF` (R98): the actuator is not written. -/
def armOff (s : State) : State :=
  if s.aboveRestart then s.setSt .startup else s

/-- "exactly one arm, chosen by st at step start" (R90). -/
def controllerArm (s : State) : State :=
  match s.st with
  | .startup => armStartup s
  | .fullspeed => armFullspeed s
  | .running => armRunning s
  | .off => armOff s

/-! ## After the arm -/

/-- `rpt' = (rpt_cnt + 1) mod 32` (R99). -/
def nextReportCount (s : State) : Nat := (s.rptCnt.toNat + 1) % reportPeriod

/-- The report counter and its strobe, then the conversion request (R99, R100). -/
def finishTick (s : State) : State :=
  (s.setRptCnt (zext 5 (nextReportCount s))).setOut ⟨true, decide (nextReportCount s = 0)⟩

/-- TICK (R90). -/
def execTick (s : State) : Host.Outcome State Fault Refusal := .next (finishTick (controllerArm s))

end Sys2Proof.Machine
end

