-- ==== Sys2Proof/Machine/Sampler.lean ====
section
/-! DEFINITION. temperature_sampler: SAMPLE (40_sampler.md R75 to R78). -/

namespace Sys2Proof.Machine

/-- `sum' = acc_sum + raw`, exact (40_sampler.md R76). -/
def sampleSum (raw : RawSample) (s : State) : Nat := s.accSum.toNat + rawValue raw

/-- `cnt' = acc_cnt + 1`, exact (40_sampler.md R76). -/
def sampleCount (s : State) : Nat := s.accCnt.toNat + 1

/-- Seed: if `temp` = 0 at the start of the step, `temp <- sext_16(sum' + CAL_OFFSET)` (40_sampler.md R77, which follows
90_conflicts.md C1). -/
def seedTemperature (sum : Nat) (s : State) : State :=
  if s.atSentinel then s.setTemp (sext 16 (sum + s.build.cal)) else s

/-- Batch completion, or the running sum and count (40_sampler.md R78). `sum` is a natural number, so `/` truncates. -/
def closeBatch (sum cnt : Nat) (s : State) : State :=
  if cnt = batchSize then
    ((s.setTemp (sext 16 ((sum / batchSize : Nat) + s.build.cal))).setAccSum 0).setAccCnt 0
  else (s.setAccSum (zext 16 sum)).setAccCnt (zext 5 cnt)

/-- SAMPLE: the seed of R77, then the batch of R78, then both strobes 0 (40_sampler.md R75). -/
def execSample (raw : RawSample) (s : State) : Host.Outcome State Fault Refusal :=
  .next (closeBatch (sampleSum raw s) (sampleCount s) (seedTemperature (sampleSum raw s) s)).quiet

end Sys2Proof.Machine
end

