-- ==== Sys2Proof/Machine/System.lean ====
section
/-! DEFINITION. IDLE and RESET. -/

namespace Sys2Proof.Machine

/-- IDLE: "no register changes; conv_start = 0, report = 0" (30_encoding.md R66). -/
def execIdle (s : State) : Host.Outcome State Fault Refusal := .next s.quiet

/-- RESET (70_reset_and_hazards.md R150). -/
def execReset (s : State) : Host.Outcome State Fault Refusal := .next s.resetBlock

end Sys2Proof.Machine
end

