-- ==== Sys2Proof/Syntax.lean ====
section
/-! DEFINITION. The block's four input events (30_encoding.md R60), the rows of spec/opcode_table.json. -/

namespace Sys2Proof

/-- One input event. IDLE, TICK and RESET carry no operand: their data bits are ignored (30_encoding.md R65). -/
inductive Instr where
  /-- Nothing happens in this step (30_encoding.md R66). -/
  | idle
  /-- `onTick()` (41_controller.md R90). -/
  | tick
  /-- `conversionComplete(raw)` (40_sampler.md R75). -/
  | sample (raw : RawSample)
  /-- Power-on, the watchdog's restart or `rst` (70_reset_and_hazards.md R150, R151). -/
  | reset
  deriving DecidableEq, Repr

/-- The mnemonic of the opcode table. -/
def Instr.mnemonic : Instr → String
  | .idle => "IDLE"
  | .tick => "TICK"
  | .sample _ => "SAMPLE"
  | .reset => "RESET"

end Sys2Proof
end

