-- ==== Sys2Proof/Machine/Dispatch.lean ====
section
/-! DEFINITION. One arm per event (30_encoding.md R60). -/

namespace Sys2Proof.Machine

def exec (i : Instr) (s : State) : Host.Outcome State Fault Refusal :=
  match i with
  | .idle => Sys2Proof.Machine.execIdle s
  | .tick => Sys2Proof.Machine.execTick s
  | .sample raw => Sys2Proof.Machine.execSample raw s
  | .reset => Sys2Proof.Machine.execReset s

end Sys2Proof.Machine
end

