-- ==== Sys2Proof/WellFormed.lean ====
section
/-! DEFINITION. Well-formed events. An event is WRITTEN as a kind and perhaps a decimal operand (30_encoding.md R67), and
there a check can fail. As an `Instr` its operand has ten bits, and every such value is legal (R64, R65). -/

namespace Sys2Proof

/-- The four kinds of event (30_encoding.md R60). -/
inductive EventKind where
  | idle
  | tick
  | sample
  | reset
  deriving DecidableEq, Repr

/-- An event as a script line writes it: a mnemonic and perhaps a decimal operand (30_encoding.md R67). -/
structure Written where
  kind : EventKind
  operand : Option Nat
  deriving DecidableEq, Repr

/-- The largest raw sample (30_encoding.md R64). -/
def rawMax : Nat := 1023

/-- SAMPLE takes one operand in [0, 1023]: "A SAMPLE operand outside [0, 1023] is a script error". The other three take
none (30_encoding.md R67). -/
def Written.wellFormed : Written → Bool
  | ⟨.sample, some raw⟩ => decide (raw ≤ rawMax)
  | ⟨.sample, none⟩ => false
  | ⟨.idle, operand⟩ => operand.isNone
  | ⟨.tick, operand⟩ => operand.isNone
  | ⟨.reset, operand⟩ => operand.isNone

/-- How an event is written. -/
def Instr.written : Instr → Written
  | .idle => ⟨.idle, none⟩
  | .tick => ⟨.tick, none⟩
  | .sample raw => ⟨.sample, some raw.toNat⟩
  | .reset => ⟨.reset, none⟩

/-- An event is well formed when its written form is. It holds of every event (30_encoding.md R65), and
`Laws/PerInstr.lean` proves so. -/
def Instr.wellFormed (i : Instr) : Bool := i.written.wellFormed

end Sys2Proof
end

