-- ==== Sys2Proof/Decode.lean ====
section
/-! DEFINITION. Decoding and encoding of the 12-bit event word (30_encoding.md R61, R65, R66), the opcode table, and the
byte form of a word. -/

namespace Sys2Proof

/-- `ev[11:10]` (30_encoding.md R61). -/
def kindBits (ev : EventWord) : BitVec 2 := ev.extractLsb' 10 2

/-- `ev[9:0]` (30_encoding.md R61). -/
def dataBits (ev : EventWord) : BitVec 10 := ev.extractLsb' 0 10

/-- `decode` of 30_encoding.md R66. It is total: "every one of the 4096 event words decodes to exactly one event" (R65). -/
def decodeWord (ev : EventWord) : Instr :=
  match (kindBits ev).toNat with
  | 0 => .idle
  | 1 => .tick
  | 2 => .sample (dataBits ev)
  | _ => .reset

/-- The kind field of an event (30_encoding.md R61). -/
def Instr.kindCode : Instr → BitVec 2
  | .idle => 0b00#2
  | .tick => 0b01#2
  | .sample _ => 0b10#2
  | .reset => 0b11#2

/-- The data field of an event, in its canonical spelling: 0 where the field is ignored (30_encoding.md R65). -/
def Instr.dataCode : Instr → BitVec 10
  | .idle => 0
  | .tick => 0
  | .sample raw => raw
  | .reset => 0

/-- The canonical event word, kind above data (30_encoding.md R61). -/
def encode (i : Instr) : EventWord := i.kindCode ++ i.dataCode

/-! ## The opcode table -/

/-- A row of spec/opcode_table.json. -/
structure TableRow where
  mnemonic : String
  matchBits : EventWord
  mask : EventWord
  deriving DecidableEq, Repr

/-- A word belongs to a row when it has the row's bits under the row's mask. -/
def TableRow.accepts (r : TableRow) (ev : EventWord) : Bool := ev &&& r.mask == r.matchBits

/-- spec/opcode_table.json, row by row. -/
def opcodeTable : List TableRow :=
  [⟨"IDLE", 0x000, 0xC00⟩, ⟨"TICK", 0x400, 0xC00⟩, ⟨"SAMPLE", 0x800, 0xC00⟩, ⟨"RESET", 0xC00, 0xC00⟩]

/-! ## Bytes

The hardware has no bytes; "If a model serialises the event word … into bytes, it chooses its own byte order" (20_memory.md
R46). This model lays a word out in two bytes, the less significant first, with the top four bits 0 (log entry 5, DESIGN
CHOICE, safe: no rule of the block reads a byte). -/

/-- Why bytes are no event word. -/
inductive DecodeError where
  /-- Fewer than two bytes are left. -/
  | truncated
  /-- The four bits above the word are not 0. -/
  | paddingNotZero
  deriving DecidableEq, Repr

/-- One event from the front of a list of bytes, and the bytes after it. -/
def decodeBytes : List Byte → Except DecodeError (Instr × List Byte)
  | lo :: hi :: rest =>
    if hi.toNat < 16 then .ok (decodeWord (hi.setWidth 4 ++ lo), rest) else .error .paddingNotZero
  | _ => .error .truncated

/-- The two bytes of an event word. -/
def wordBytes (ev : EventWord) : List Byte := [ev.setWidth 8, (ev.extractLsb' 8 4).setWidth 8]

/-- The two bytes of an event. -/
def encodeBytes (i : Instr) : List Byte := wordBytes (encode i)

/-- What the decoder reads from an event word given as a number, numbered as spec/opcode_table.json numbers it. The table
gives every row 12 bits, so `nbits` (16, in whole bytes) adds nothing. -/
def decodeTableWord (_nbits w : Nat) : Option Instr :=
  if w < 2 ^ 16 then
    match decodeBytes [BitVec.ofNat 8 w, BitVec.ofNat 8 (w / 256)] with
    | .ok (i, _) => some i
    | .error _ => none
  else none

end Sys2Proof
end

