-- ==== Sys2Proof/Machine/Fetch.lean ====
section
/-! DEFINITION. Where a step's event comes from. The block fetches nothing (00_scope.md R4): its environment delivers events,
and those not yet answered wait in `pending` (log entry 1). -/

namespace Sys2Proof.Machine

/-- The event of the next step, and the state without it: the oldest waiting word, or IDLE, "time passing with no event"
(30_encoding.md R66), when none waits. -/
def fetch (s : State) : Instr × State :=
  match s.pending with
  | [] => (.idle, s)
  | word :: rest => (decodeWord word, s.setPending rest)

/-- The state in which the word `w` is the next event: it stands before every event already waiting. -/
def placeWord (s : State) (w : Nat) : State := s.setPending (BitVec.ofNat 12 w :: s.pending)

end Sys2Proof.Machine
end

