-- ==== Sys2Proof/Machine/Step.lean ====
section
/-! DEFINITION. One step: the response to one input event (00_scope.md R14). -/

namespace Sys2Proof.Machine

/-- Take the next event and run it. -/
def step (s : State) : Host.Outcome State Fault Refusal := exec (fetch s).1 (fetch s).2

/-- `s` with the event word `w` as its next event. -/
def State.withFetchWord (s : State) (_nbits w : Nat) : State := placeWord s w

end Sys2Proof.Machine
end

