-- ==== Sys2Proof/Machine/Script.lean ====
section
/-! DEFINITION. The event script of 30_encoding.md R67 and R68: lines, pseudo-events and their textual expansion, and the
assembler, which refuses a SAMPLE operand outside [0, 1023]. Text is a list of characters. -/

namespace Sys2Proof.Machine

/-- One script line: an event, or a pseudo-event of 30_encoding.md R68. -/
inductive ScriptLine where
  | event (w : Written)
  /-- `TICKS n`. -/
  | ticks (n : Nat)
  /-- `BATCH v`. -/
  | batch (v : Nat)
  /-- `PERIOD v`. -/
  | period (v : Nat)
  /-- `PERIODS n v`. -/
  | periods (n v : Nat)
  deriving DecidableEq, Repr

/-- Why a script is refused. -/
inductive ScriptError where
  /-- The line is none of R67 and R68. -/
  | notALine
  /-- The event's operand is missing, not allowed, or outside [0, 1023] (R67). -/
  | badOperand
  deriving DecidableEq, Repr

/-- `PERIOD v` is `TICK` then `SAMPLE v` (30_encoding.md R68). -/
def writtenPeriod (v : Nat) : List Written := [⟨.tick, none⟩, ⟨.sample, some v⟩]

/-- "Expansion is purely textual" (30_encoding.md R68). -/
def ScriptLine.expand : ScriptLine → List Written
  | .event w => [w]
  | .ticks n => List.replicate n ⟨.tick, none⟩
  | .batch v => List.replicate 20 ⟨.sample, some v⟩
  | .period v => writtenPeriod v
  | .periods n v => (List.replicate n (writtenPeriod v)).flatten

/-- The event a well-formed written event stands for. An operand out of range is refused, not truncated (R67). -/
def instrOf? (w : Written) : Option Instr :=
  if w.wellFormed then
    match w.kind with
    | .idle => some .idle
    | .tick => some .tick
    | .sample => w.operand.map fun raw => .sample (BitVec.ofNat 10 raw)
    | .reset => some .reset
  else none

/-- The events of written events, or the refusal of the first bad one. -/
def assembleWritten : List Written → Except ScriptError (List Instr)
  | [] => .ok []
  | w :: rest =>
    match instrOf? w with
    | none => .error .badOperand
    | some i =>
      match assembleWritten rest with
      | .error e => .error e
      | .ok is => .ok (i :: is)

/-- The assembler on lines: expand, check, encode. -/
def assemble (lines : List ScriptLine) : Except ScriptError (List EventWord) :=
  match assembleWritten (lines.flatMap ScriptLine.expand) with
  | .error e => .error e
  | .ok is => .ok (is.map encode)

/-! ## Text (30_encoding.md R67; what counts as white space and the empty line: log entry 11) -/

/-- "`;` starts a comment". -/
def withoutComment (line : List Char) : List Char := line.takeWhile (· != ';')

/-- White space between a mnemonic and its operands. -/
def isBlank (c : Char) : Bool := c == ' ' || c == '\t' || c == '\r'

/-- A finished token, if it is not empty. -/
def endToken (token : List Char) : List (List Char) := if token.isEmpty then [] else [token]

/-- The tokens of a line; `token` is the one being read. -/
def tokens : List Char → List Char → List (List Char)
  | [], token => endToken token
  | c :: rest, token =>
    if isBlank c then endToken token ++ tokens rest [] else tokens rest (token ++ [c])

/-- A decimal digit. -/
def digit? (c : Char) : Option Nat :=
  if 48 ≤ c.toNat && c.toNat ≤ 57 then some (c.toNat - 48) else none

/-- Decimal digits read on from `acc`. -/
def digits? : List Char → Nat → Option Nat
  | [], acc => some acc
  | c :: rest, acc =>
    match digit? c with
    | none => none
    | some d => digits? rest (10 * acc + d)

/-- A decimal integer: one digit or more. -/
def number? (token : List Char) : Option Nat := if token.isEmpty then none else digits? token 0

/-- "Mnemonics are case-insensitive". -/
def upper (c : Char) : Char := if 97 ≤ c.toNat && c.toNat ≤ 122 then Char.ofNat (c.toNat - 32) else c

/-- What a mnemonic names. -/
inductive Mnemonic where
  | plain (k : EventKind)
  | ticks
  | batch
  | period
  | periods
  deriving DecidableEq, Repr

/-- The mnemonics of R67 and R68. -/
def mnemonics : List (List Char × Mnemonic) :=
  [(['I', 'D', 'L', 'E'], .plain .idle), (['T', 'I', 'C', 'K'], .plain .tick),
   (['S', 'A', 'M', 'P', 'L', 'E'], .plain .sample), (['R', 'E', 'S', 'E', 'T'], .plain .reset),
   (['T', 'I', 'C', 'K', 'S'], .ticks), (['B', 'A', 'T', 'C', 'H'], .batch),
   (['P', 'E', 'R', 'I', 'O', 'D'], .period), (['P', 'E', 'R', 'I', 'O', 'D', 'S'], .periods)]

/-- A token looked up as a mnemonic. -/
def mnemonic? (token : List Char) : Option Mnemonic := mnemonics.lookup (token.map upper)

/-- Operand tokens as numbers. -/
def numbers? : List (List Char) → Option (List Nat)
  | [] => some []
  | t :: rest =>
    match number? t, numbers? rest with
    | some n, some ns => some (n :: ns)
    | _, _ => none

/-- A mnemonic with its operands. An event with one operand is checked by `Written.wellFormed` when it is assembled. -/
def lineOf : Mnemonic → List Nat → Option ScriptLine
  | .plain k, [] => some (.event ⟨k, none⟩)
  | .plain k, [n] => some (.event ⟨k, some n⟩)
  | .ticks, [n] => some (.ticks n)
  | .batch, [v] => some (.batch v)
  | .period, [v] => some (.period v)
  | .periods, [n, v] => some (.periods n v)
  | _, _ => none

/-- One line of text: `none` inside for a line with nothing but white space and comment. -/
def parseLine (line : List Char) : Except ScriptError (Option ScriptLine) :=
  match tokens (withoutComment line) [] with
  | [] => .ok none
  | head :: operands =>
    match mnemonic? head, numbers? operands with
    | some m, some ns =>
      match lineOf m ns with
      | some l => .ok (some l)
      | none => .error .notALine
    | _, _ => .error .notALine

/-- The lines of a script. -/
def parseLines : List (List Char) → Except ScriptError (List ScriptLine)
  | [] => .ok []
  | line :: rest =>
    match parseLine line, parseLines rest with
    | .error e, _ => .error e
    | .ok _, .error e => .error e
    | .ok none, .ok ls => .ok ls
    | .ok (some l), .ok ls => .ok (l :: ls)

/-- From the text of a script to its event words. -/
def assembleText (lines : List (List Char)) : Except ScriptError (List EventWord) :=
  match parseLines lines with
  | .error e => .error e
  | .ok ls => assemble ls

end Sys2Proof.Machine
end

