-- ==== Sys2Proof/Machine/Ports.lean ====
section
/-! DEFINITION. The hardware port form of the inputs: one clock cycle as one or two steps (30_encoding.md R63;
60_exceptions.md R133). -/

namespace Sys2Proof.Machine

/-- The input ports of one clock cycle (30_encoding.md R63). -/
structure PortInputs where
  rst : Bool
  tick : Bool
  sampleValid : Bool
  sampleData : RawSample
  deriving DecidableEq, Repr

/-- The steps of a cycle: RESET wins and discards the rest; a sample runs before a tick (30_encoding.md R63). -/
def PortInputs.events (c : PortInputs) : List Instr :=
  if c.rst then [.reset]
  else if c.sampleValid && c.tick then [.sample c.sampleData, .tick]
  else if c.sampleValid then [.sample c.sampleData]
  else if c.tick then [.tick]
  else [.idle]

/-- The event words of a cycle. -/
def PortInputs.words (c : PortInputs) : List EventWord := c.events.map encode

/-- The state after a cycle's inputs have arrived behind the events already waiting. -/
def State.deliver (s : State) (c : PortInputs) : State := s.setPending (s.pending ++ c.words)

/-- "The cycle's outputs are those of its last step. Both strobes are ORed over the steps of the cycle"
(30_encoding.md R63). `seen` holds the strobes of the steps before. -/
def orStrobes (seen : Strobes) (o : Outputs) : Outputs :=
  { o with convStart := seen.convStart || o.convStart, report := seen.report || o.report }

/-- Run the steps of a cycle, keeping the strobes seen. -/
def runCycleFrom : List Instr → Strobes → State → Host.Outcome (State × Outputs) Fault Refusal
  | [], seen, s => .next (s, orStrobes seen s.outputs)
  | i :: rest, seen, s =>
    andThen (exec i s) fun t =>
      runCycleFrom rest ⟨seen.convStart || t.out.convStart, seen.report || t.out.report⟩ t

/-- One clock cycle: the state after its last step and the cycle's outputs (30_encoding.md R63). -/
def clockCycle (c : PortInputs) (s : State) : Host.Outcome (State × Outputs) Fault Refusal :=
  runCycleFrom c.events ⟨false, false⟩ s

end Sys2Proof.Machine
end

