-- ==== Sys2Proof/Safety.lean ====
section
/-! DEFINITION. What claims are stated in: runs over lists of events, the invariants of 10_state.md R35, and the outputs that
count as full drive and as off. -/

namespace Sys2Proof.Machine

/-! ## Runs -/

/-- The events of a list, one step each, in order (20_memory.md R53). -/
def runEvents : List Instr → State → Host.Outcome State Fault Refusal
  | [], s => .next s
  | i :: rest, s => andThen (exec i s) (runEvents rest)

/-- How many TICKs a list of events holds. -/
def tickCount (events : List Instr) : Nat := events.count .tick

/-- The raw samples of a list of events, in order. -/
def rawSamples : List Instr → List RawSample
  | [] => []
  | .sample raw :: rest => raw :: rawSamples rest
  | .idle :: rest => rawSamples rest
  | .tick :: rest => rawSamples rest
  | .reset :: rest => rawSamples rest

/-- The exact sum of raw samples. -/
def rawTotal (raws : List RawSample) : Nat := (raws.map BitVec.toNat).sum

/-- "one tick period under the environment contract" for each sample: TICK, then SAMPLE (30_encoding.md R68;
70_reset_and_hazards.md R160). -/
def tickPeriods (raws : List RawSample) : List Instr := raws.flatMap fun raw => [.tick, .sample raw]

/-- `P` holds of the state before every TICK of the run of `events` from `s`. -/
def BeforeEveryTick (P : State → Prop) (events : List Instr) (s : State) : Prop :=
  ∀ before after u, events = before ++ .tick :: after → runEvents before s = .next u → P u

/-! ## The invariants of 10_state.md R35 -/

/-- R35(a): `acc_cnt` in [0, 19] and `acc_sum` ≤ 1023 × `acc_cnt`. -/
abbrev State.accumulatorInv (s : State) : Prop :=
  s.accCnt.toNat ≤ 19 ∧ s.accSum.toNat ≤ 1023 * s.accCnt.toNat

/-- R35(b): `temp` in {0} ∪ [`CAL_OFFSET`, 20460 + `CAL_OFFSET`]. -/
abbrev State.temperatureInv (s : State) : Prop :=
  s.temp.toInt = 0 ∨ (s.build.cal ≤ s.temp.toInt ∧ s.temp.toInt ≤ 20460 + s.build.cal)

/-- R35(c), (d), (e): what `st` says of `spin_cnt`. -/
abbrev State.spinInv (s : State) : Prop :=
  (s.st = .fullspeed → s.spinCnt.toNat ≤ 32) ∧
  (s.st = .running ∨ s.st = .off → s.spinCnt.toNat = 33) ∧
  (s.st = .startup → s.spinCnt.toNat = 0 ∨ s.spinCnt.toNat = 33)

/-- R35(f) for variant A; R35(g), (h) for variant B. -/
def actuatorInv (st : Phase) : Actuator → Prop
  | .pwm duty forceFull =>
    (st = .startup ∨ st = .off → forceFull = false ∧ duty = 0) ∧
    (st = .fullspeed → forceFull = true ∧ duty = 0) ∧
    (st = .running → forceFull = false)
  | .twoStage level =>
    (st = .startup ∨ st = .off → level = .stopped) ∧
    (st = .fullspeed → level = .full) ∧
    (st = .running → level = .half ∨ level = .full) ∧
    level ≠ .unused

/-- All of 10_state.md R35. -/
structure State.Inv (s : State) : Prop where
  accumulator : s.accumulatorInv
  temperature : s.temperatureInv
  spin : s.spinInv
  actuator : actuatorInv s.st s.act

/-! ## Drive -/

/-- The fan is driven at maximum: variant A effective duty 255, variant B the full-speed pin alone (42_actuator.md R117,
R118). -/
def Actuator.drivesFull : Actuator → Prop
  | .pwm duty forceFull => effDuty duty forceFull = 255
  | .twoStage level => level.pinHalf = false ∧ level.pinFull = true

/-- The fan is off: variant A effective duty 0, variant B neither pin. -/
def Actuator.drivesNothing : Actuator → Prop
  | .pwm duty forceFull => effDuty duty forceFull = 0
  | .twoStage level => level.pinHalf = false ∧ level.pinFull = false

end Sys2Proof.Machine
end

