-- ==== Sys2Proof/Certificates/Slice0/Obligations.lean ====
section
/-! DEFINITION. The statements for the provers. Where a statement rests on a decision or a derivation that the spec marks as its
own, its docstring names it. -/

open Sys2Proof Sys2Proof.Machine

/-! ## Encoding -/

/-- Encoding an event and decoding it, as a word or as bytes with more bytes behind, gives the event back (30_encoding.md R61,
R66). The byte form is the model's choice (log entry 5). -/
def Obligations.EncodedEventsDecodeBack : Prop :=
  ∀ i : Instr, i.wellFormed = true →
    decodeWord (encode i) = i ∧ ∀ rest : List Byte, decodeBytes (encodeBytes i ++ rest) = .ok (i, rest)

/-- Decoding any of the 4096 words and encoding again keeps the kind, keeps the data of a SAMPLE, and spells the ignored data
of the other kinds 0 (30_encoding.md R61, R65). -/
def Obligations.ReencodingIsTheCanonicalSpelling : Prop :=
  ∀ ev : EventWord,
    kindBits (encode (decodeWord ev)) = kindBits ev ∧
    dataBits (encode (decodeWord ev)) = if kindBits ev = 0b10#2 then dataBits ev else 0

/-- In IDLE, TICK and RESET words the data field is ignored (30_encoding.md R65, decision D5). -/
def Obligations.DataOfOtherKindsIsIgnored : Prop :=
  ∀ ev ev' : EventWord, kindBits ev = kindBits ev' → kindBits ev ≠ 0b10#2 → decodeWord ev = decodeWord ev'

/-- Every word belongs to exactly one row of the opcode table, the row of the event it decodes to (30_encoding.md R61, R65;
spec/opcode_table.json). -/
def Obligations.TableRowsPartitionTheWords : Prop :=
  ∀ ev : EventWord, (opcodeTable.filter (·.accepts ev)).map (·.mnemonic) = [(decodeWord ev).mnemonic]

/-- The worked encodings of 30_encoding.md R69 and the words of 95_test_vectors.md E-1 to E-9, bit by bit. -/
def Obligations.WorkedEncodingsDecode : Prop :=
  decodeWord 0b010000000000#12 = .tick ∧ decodeWord 0b110000000000#12 = .reset ∧
  decodeWord 0b000000000000#12 = .idle ∧ decodeWord 0b100100101101#12 = .sample 301 ∧
  decodeWord 0b100011111010#12 = .sample 250 ∧ decodeWord 0b100101001010#12 = .sample 330 ∧
  decodeWord 0b100000000000#12 = .sample 0 ∧ decodeWord 0b101111111111#12 = .sample 1023 ∧
  decodeWord 0b011111111111#12 = .tick ∧ decodeWord 0b001111111111#12 = .idle ∧
  decodeWord 0b111111111111#12 = .reset

/-- Bytes that are no event word are refused by name. The byte form is the model's choice (log entry 5). -/
def Obligations.OtherBytesAreRefused : Prop :=
  decodeBytes [] = .error .truncated ∧ (∀ b, decodeBytes [b] = .error .truncated) ∧
  ∀ lo hi rest, 16 ≤ hi.toNat → decodeBytes (lo :: hi :: rest) = .error .paddingNotZero

/-! ## The step -/

/-- A step runs the event its oldest waiting word decodes to, with that word taken off the queue; when no word waits it runs
IDLE (00_scope.md R14; 30_encoding.md R66). The queue is the model's form of the inputs (log entry 1). -/
def Obligations.StepRunsTheDecodedEvent : Prop :=
  (∀ (s : State) word rest, s.pending = word :: rest → step s = exec (decodeWord word) { s with pending := rest }) ∧
  ∀ s : State, s.pending = [] → step s = exec .idle s

/-- A word placed as the next event runs at the next step, before every event already waiting (log entry 1). -/
def Obligations.PlacedWordRunsNext : Prop :=
  ∀ (s : State) nbits w i, w < 4096 → decodeTableWord nbits w = some i → step (s.withFetchWord nbits w) = exec i s

/-- No step has an error outcome, and neither has any event in any state (60_exceptions.md R130). -/
def Obligations.NoStepHasAnErrorOutcome : Prop :=
  (∀ s : State, ∃ t, step s = .next t) ∧ ∀ i (s : State), ∃ t, exec i s = .next t

/-- No step changes a build parameter or the variant (10_state.md R33). -/
def Obligations.BuildParametersNeverChange : Prop :=
  ∀ s t : State, step s = .next t → t.build = s.build ∧ t.variant = s.variant

/-- Running the steps that answer a queue of words is running the events they decode to, in order, and the words behind them
still wait (20_memory.md R53). The queue is the model's form of the inputs (log entry 1). -/
def Obligations.QueuedWordsRunInOrder : Prop :=
  ∀ (words : List EventWord) (s : State) (rest : List EventWord), s.pending = words ++ rest →
    core.run words.length s = runEvents (words.map decodeWord) { s with pending := rest }

/-! ## IDLE -/

/-- IDLE changes no register and drives both strobes 0 (30_encoding.md R66, decision D2). -/
def Obligations.IdleChangesNoRegister : Prop :=
  ∀ s : State, exec .idle s = .next { s with out := ⟨false, false⟩ }

/-! ## SAMPLE -/

/-- Accumulate and complete the batch (40_sampler.md R76, R78): with `acc_cnt` and `acc_sum` in the range R35(a) gives, the 20th
sample writes the truncated mean plus the offset, which lies in [`CAL_OFFSET`, 1023 + `CAL_OFFSET`], and clears sum and count;
any earlier one adds to both, exactly, and leaves a `temp` that the seed does not write. -/
def Obligations.SampleAccumulatesAndClosesTheBatch : Prop :=
  ∀ raw (s : State), s.accumulatorInv → ∃ t, exec (.sample raw) s = .next t ∧
    (s.accCnt.toNat + 1 = 20 →
      t.temp.toInt = ((s.accSum.toNat + raw.toNat) / 20 : Nat) + s.build.cal ∧
      s.build.cal ≤ t.temp.toInt ∧ t.temp.toInt ≤ 1023 + s.build.cal ∧
      t.accSum = 0 ∧ t.accCnt = 0) ∧
    (s.accCnt.toNat + 1 < 20 →
      t.accSum.toNat = s.accSum.toNat + raw.toNat ∧ t.accCnt.toNat = s.accCnt.toNat + 1 ∧
      (s.temp ≠ 0 → t.temp = s.temp))

/-- Seed (40_sampler.md R77, decision D24): at the sentinel, a sample that does not complete a batch writes the accumulated sum
with this sample, plus the offset. -/
def Obligations.SampleSeedsAtTheSentinel : Prop :=
  ∀ raw (s : State), s.accumulatorInv → s.temp = 0 → s.accCnt.toNat + 1 < 20 →
    ∃ t, exec (.sample raw) s = .next t ∧ t.temp.toInt = (s.accSum.toNat + raw.toNat : Nat) + s.build.cal

/-- SAMPLE never fails, whatever the state and the sample, drives both strobes 0, and leaves the controller, the level
registers, the build, the waiting events and so the pins as they were (40_sampler.md R75, R79). -/
def Obligations.SampleLeavesControllerAndActuator : Prop :=
  ∀ raw (s : State), ∃ t, exec (.sample raw) s = .next t ∧
    t.st = s.st ∧ t.spinCnt = s.spinCnt ∧ t.rptCnt = s.rptCnt ∧ t.act = s.act ∧ t.build = s.build ∧
    t.pending = s.pending ∧ t.out = ⟨false, false⟩ ∧ t.outputs.pins = s.outputs.pins

/-- A SAMPLE that neither seeds nor completes a batch changes no observable output but for the strobes of the step before
(40_sampler.md R84, derived there). -/
def Obligations.MidBatchSampleIsInvisible : Prop :=
  ∀ raw (s : State), s.temp ≠ 0 → s.accCnt.toNat + 1 ≠ 20 →
    ∃ t, exec (.sample raw) s = .next t ∧ t.outputs = { s.outputs with convStart := false, report := false }

/-- A seed that gives 0 leaves the sentinel, and the next sample of the batch seeds again from the partial sum (40_sampler.md
R81, derived there). -/
def Obligations.ZeroSeedIsSeededAgain : Prop :=
  ∀ (first second : RawSample) (s : State), s.accumulatorInv → s.accCnt.toNat + 2 < 20 → s.temp = 0 →
    ((s.accSum.toNat + first.toNat : Nat) : Int) + s.build.cal = 0 →
    ∃ u t, exec (.sample first) s = .next u ∧ u.temp = 0 ∧ exec (.sample second) u = .next t ∧
      t.temp.toInt = (s.accSum.toNat + first.toNat + second.toNat : Nat) + s.build.cal

/-- From an empty accumulator, any 20 samples, with any TICKs and IDLEs among them, leave Temperature at their truncated mean
plus the offset and the accumulator empty (40_sampler.md R78, R80). -/
def Obligations.TwentySamplesAreAveraged : Prop :=
  ∀ events (s : State), s.accSum = 0 → s.accCnt = 0 → .reset ∉ events → (rawSamples events).length = 20 →
    ∃ t, runEvents events s = .next t ∧
      t.temp.toInt = (rawTotal (rawSamples events) / 20 : Nat) + s.build.cal ∧ t.accSum = 0 ∧ t.accCnt = 0

/-- The sampler depends on nothing but its own registers, the offset and the samples: two runs without RESET that start alike
there and deliver the same samples, with any other events among them, in any variant, controller state and with any
thresholds, agree on Temperature and the accumulator (40_sampler.md R80, decision D19). -/
def Obligations.SamplerSeesOnlySamples : Prop :=
  ∀ events events' (s s' : State), .reset ∉ events → .reset ∉ events' → rawSamples events = rawSamples events' →
    s.temp = s'.temp → s.accSum = s'.accSum → s.accCnt = s'.accCnt → s.build.calOffset = s'.build.calOffset →
    ∃ t t', runEvents events s = .next t ∧ runEvents events' s' = .next t' ∧
      t.temp = t'.temp ∧ t.accSum = t'.accSum ∧ t.accCnt = t'.accCnt

/-! ## TICK -/

/-- What a TICK does in every state: it completes, advances the report counter modulo 32, strobes `report` exactly when the new
count is 0, requests a conversion, and leaves Temperature, the accumulator, the build and the waiting events as they were
(41_controller.md R90, R99, R100, R101; decision D17). -/
def Obligations.EveryTickCompletes : Prop :=
  ∀ s : State, ∃ t, exec .tick s = .next t ∧
    t.rptCnt.toNat = (s.rptCnt.toNat + 1) % 32 ∧ t.out.report = decide (t.rptCnt = 0) ∧ t.out.convStart = true ∧
    t.temp = s.temp ∧ t.accSum = s.accSum ∧ t.accCnt = s.accCnt ∧ t.build = s.build ∧ t.pending = s.pending

/-- Only a TICK drives a strobe, and every TICK requests a conversion (41_controller.md R100; 30_encoding.md R62). -/
def Obligations.OnlyTicksStrobe : Prop :=
  ∀ i (s : State), ∃ t, exec i s = .next t ∧ t.out.convStart = decide (i = .tick) ∧ (t.out.report = true → i = .tick)

/-- STARTUP arm (41_controller.md R92, decisions D13 and D23): whatever Temperature is, one TICK forces full output, clears the
spin-up counter and goes to FULLSPEED. The report counter, its strobe and the conversion request are those of
every TICK (R90, R99, R100; the counter and its phase are decision D17, log entry 8, unsafe). -/
def Obligations.StartupTickForcesFull : Prop :=
  ∀ s : State, s.st = .startup →
    (∀ duty force, s.act = .pwm duty force →
      exec .tick s = .next { s with
        st := .fullspeed, spinCnt := 0, act := .pwm duty true,
        rptCnt := s.rptCnt + 1, out := ⟨true, decide (s.rptCnt = 31)⟩ }) ∧
    (∀ level, s.act = .twoStage level →
      exec .tick s = .next { s with
        st := .fullspeed, spinCnt := 0, act := .twoStage .full,
        rptCnt := s.rptCnt + 1, out := ⟨true, decide (s.rptCnt = 31)⟩ })

/-- FULLSPEED arm and its exit (41_controller.md R93, R94): the counter is incremented, then compared. At most 32: the state
and the actuator stay. Above 32: RUNNING, with variant A's duty 255 regulated and variant B's level as it was. (Counts
above 254 are no value of a reachable FULLSPEED state: R27 gives at most 33.) The report counter, its strobe and the conversion request are those of
every TICK (R90, R99, R100; the counter and its phase are decision D17, log entry 8, unsafe). -/
def Obligations.FullspeedTickCountsTheDwell : Prop :=
  ∀ s : State, s.st = .fullspeed →
    (s.spinCnt.toNat + 1 ≤ 32 →
      exec .tick s = .next { s with
        spinCnt := s.spinCnt + 1, rptCnt := s.rptCnt + 1, out := ⟨true, decide (s.rptCnt = 31)⟩ }) ∧
    (s.spinCnt.toNat + 1 > 32 → s.spinCnt.toNat + 1 ≤ 255 →
      (∀ duty force, s.act = .pwm duty force →
        exec .tick s = .next { s with
          st := .running, spinCnt := s.spinCnt + 1, act := .pwm 255 false,
          rptCnt := s.rptCnt + 1, out := ⟨true, decide (s.rptCnt = 31)⟩ }) ∧
      (∀ level, s.act = .twoStage level →
        exec .tick s = .next { s with
          st := .running, spinCnt := s.spinCnt + 1,
          rptCnt := s.rptCnt + 1, out := ⟨true, decide (s.rptCnt = 31)⟩ }))

/-- RUNNING below the low threshold (41_controller.md R95; the order of the tests is decision D28): OFF, with the output off.
The report counter, its strobe and the conversion request are those of
every TICK (R90, R99, R100; the counter and its phase are decision D17, log entry 8, unsafe). -/
def Obligations.RunningTickBelowLowTurnsOff : Prop :=
  ∀ s : State, s.st = .running → s.temp.toInt < s.build.low →
    (∀ duty force, s.act = .pwm duty force →
      exec .tick s = .next { s with
        st := .off, act := .pwm 0 false, rptCnt := s.rptCnt + 1, out := ⟨true, decide (s.rptCnt = 31)⟩ }) ∧
    (∀ level, s.act = .twoStage level →
      exec .tick s = .next { s with
        st := .off, act := .twoStage .stopped, rptCnt := s.rptCnt + 1, out := ⟨true, decide (s.rptCnt = 31)⟩ })

/-- `running_A` (41_controller.md R96, with the percent of 42_actuator.md R120 and the rescale of R121, decisions D10, D11): at
or above the high threshold the duty is 255; in the band it is the percent (temp - low) × 2 + 40, at most 100, times 255
divided by 100. The state stays RUNNING and `force_full` is not written (the model's reading, log entry 10). The report counter, its strobe and the conversion request are those of
every TICK (R90, R99, R100; the counter and its phase are decision D17, log entry 8, unsafe). -/
def Obligations.RunningTickSetsTheDuty : Prop :=
  ∀ (s : State) duty force, s.st = .running → s.act = .pwm duty force → s.build.low ≤ s.temp.toInt →
    ∃ d : BitVec 8,
      exec .tick s = .next { s with
        act := .pwm d force, rptCnt := s.rptCnt + 1, out := ⟨true, decide (s.rptCnt = 31)⟩ } ∧
      (s.build.high ≤ s.temp.toInt → d = 255) ∧
      (s.temp.toInt < s.build.high →
        (d.toNat : Int) = min ((s.temp.toInt - s.build.low) * 2 + 40) 100 * 255 / 100)

/-- `running_B` (41_controller.md R97): FULL at or above the high threshold, HALF below high - 2, unchanged between. The state
stays RUNNING. The report counter, its strobe and the conversion request are those of
every TICK (R90, R99, R100; the counter and its phase are decision D17, log entry 8, unsafe). -/
def Obligations.RunningTickSetsTheLevel : Prop :=
  ∀ (s : State) level, s.st = .running → s.act = .twoStage level → s.build.low ≤ s.temp.toInt →
    ∃ l : Level,
      exec .tick s = .next { s with
        act := .twoStage l, rptCnt := s.rptCnt + 1, out := ⟨true, decide (s.rptCnt = 31)⟩ } ∧
      (s.build.high ≤ s.temp.toInt → l = .full) ∧
      (s.temp.toInt < s.build.high → s.temp.toInt < s.build.high - 2 → l = .half) ∧
      (s.temp.toInt < s.build.high → s.build.high - 2 ≤ s.temp.toInt → l = level)

/-- OFF arm (41_controller.md R98): STARTUP strictly above low + 2, OFF otherwise; the actuator is not written.
The report counter, its strobe and the conversion request are those of
every TICK (R90, R99, R100; the counter and its phase are decision D17, log entry 8, unsafe). -/
def Obligations.OffTickWatchesTemperature : Prop :=
  ∀ s : State, s.st = .off →
    (s.temp.toInt > s.build.low + 2 →
      exec .tick s = .next { s with
        st := .startup, rptCnt := s.rptCnt + 1, out := ⟨true, decide (s.rptCnt = 31)⟩ }) ∧
    (s.temp.toInt ≤ s.build.low + 2 →
      exec .tick s = .next { s with
        rptCnt := s.rptCnt + 1, out := ⟨true, decide (s.rptCnt = 31)⟩ })

/-- The state graph has exactly the edges of 41_controller.md R103 (derived there), and a RESET leads to STARTUP. -/
def Obligations.StateGraphHasTheseEdges : Prop :=
  ∀ i (s t : State), exec i s = .next t →
    (i = .reset → t.st = .startup) ∧
    (i ≠ .reset → i ≠ .tick → t.st = s.st) ∧
    (i = .tick →
      (s.st = .startup → t.st = .fullspeed) ∧
      (s.st = .fullspeed → t.st = if s.spinCnt.toNat + 1 ≤ 32 then .fullspeed else .running) ∧
      (s.st = .running → t.st = if s.build.low ≤ s.temp.toInt then .running else .off) ∧
      (s.st = .off → t.st = if s.temp.toInt ≤ s.build.low + 2 then .off else .startup))

/-- A TICK does not see the accumulator (20_memory.md R52): with any other sum and count it does the same and leaves them. -/
def Obligations.TicksDoNotSeeTheAccumulator : Prop :=
  ∀ (s : State) sum cnt, ∃ t, exec .tick s = .next t ∧
    exec .tick { s with accSum := sum, accCnt := cnt } = .next { t with accSum := sum, accCnt := cnt }

/-! ## The machine as a whole -/

/-- Spin-up timeline (41_controller.md R102, derived there): from a STARTUP state, over any events without RESET, TICKs 1 to 33
leave FULLSPEED, TICK 34 enters RUNNING, and from TICK 1 through TICK 34 the output is at maximum, whatever Temperature
is. -/
def Obligations.SpinUpDrivesFullForThirtyFourTicks : Prop :=
  ∀ events (s : State), s.st = .startup → .reset ∉ events → ∃ t, runEvents events s = .next t ∧
    (tickCount events = 0 → t.st = .startup ∧ t.act = s.act) ∧
    (1 ≤ tickCount events → tickCount events ≤ 33 →
      t.st = .fullspeed ∧ t.spinCnt.toNat + 1 = tickCount events) ∧
    (tickCount events = 34 → t.st = .running ∧ t.spinCnt.toNat = 33) ∧
    (1 ≤ tickCount events → tickCount events ≤ 34 → t.act.drivesFull)

/-- Report cadence (41_controller.md R99, decision D17, log entry 8, unsafe): from every state, over any events without RESET, the
counter advances by the number of TICKs modulo 32 and by nothing else, and a TICK after them strobes `report` exactly when
it brings the counter to a multiple of 32. So after reset it is exactly the 32nd, 64th, 96th, … TICK that strobes. -/
def Obligations.EveryThirtySecondTickReports : Prop :=
  (∀ events (s : State), .reset ∉ events →
    ∃ u t, runEvents events s = .next u ∧ u.rptCnt.toNat = (s.rptCnt.toNat + tickCount events) % 32 ∧
      exec .tick u = .next t ∧ t.out.report = decide (32 ∣ s.rptCnt.toNat + tickCount events + 1)) ∧
  ∀ variant build events, .reset ∉ events →
    ∃ t, runEvents (events ++ [.tick]) (State.resetFor variant build) = .next t ∧
      t.out.report = decide (32 ∣ tickCount events + 1) ∧ t.rptCnt.toNat = (tickCount events + 1) % 32

/-- Low-side hysteresis (41_controller.md R104(a), derived there): over any events without RESET for which Temperature is at
most low + 2 at every TICK, a controller in RUNNING or OFF stays in these two states, and once OFF it stays OFF with its
level registers unchanged. -/
def Obligations.OffIsNotLeftInsideTheLowBand : Prop :=
  ∀ events (s : State), .reset ∉ events → s.st = .running ∨ s.st = .off →
    BeforeEveryTick (fun u => u.temp.toInt ≤ u.build.low + 2) events s →
    ∃ t, runEvents events s = .next t ∧ (t.st = .running ∨ t.st = .off) ∧
      (s.st = .off → t.st = .off ∧ t.act = s.act)

/-- Variant B's sticky band (41_controller.md R97, R104(b)): over any events without RESET for which Temperature is at least the
low threshold at every TICK, a RUNNING controller keeps FULL while Temperature is at least high - 2 at every TICK, and
keeps whatever level it has while Temperature is in [high - 2, high - 1] at every TICK. -/
def Obligations.LevelSticksInTheHighBand : Prop :=
  ∀ events (s : State) level, .reset ∉ events → s.st = .running → s.act = .twoStage level →
    BeforeEveryTick (fun u => u.build.low ≤ u.temp.toInt ∧ u.build.high - 2 ≤ u.temp.toInt) events s →
    ∃ t, runEvents events s = .next t ∧ t.st = .running ∧
      (level = .full → t.act = .twoStage .full) ∧
      (BeforeEveryTick (fun u => u.temp.toInt < u.build.high) events s → t.act = .twoStage level)

/-- The report counter steers nothing (41_controller.md R99): two runs of the same events from states that differ only in
`rpt_cnt` and the last strobes end in states that differ only there. -/
def Obligations.ReportCounterSteersNothing : Prop :=
  ∀ events (s : State) count strobes, ∃ t u, runEvents events s = .next t ∧
    runEvents events { s with rptCnt := count, out := strobes } = .next u ∧
    u = { t with rptCnt := u.rptCnt, out := u.out }

/-- Without a TICK or a RESET the controller and the actuator do not move, however many samples arrive and however long the gap
(60_exceptions.md R137; 42_actuator.md R115). -/
def Obligations.OnlyTicksAndResetsMoveTheFan : Prop :=
  ∀ events (s : State), .tick ∉ events → .reset ∉ events →
    ∃ t, runEvents events s = .next t ∧ t.st = s.st ∧ t.spinCnt = s.spinCnt ∧ t.rptCnt = s.rptCnt ∧
      t.act = s.act ∧ t.outputs.pins = s.outputs.pins ∧ t.outputs.statLevel = s.outputs.statLevel

/-- Every step keeps the invariants of 10_state.md R35 (derived there). -/
def Obligations.EveryStepKeepsTheInvariants : Prop :=
  ∀ s t : State, s.Inv → step s = .next t → t.Inv

/-- The reset state of every build meets the invariants of 10_state.md R35 (derived there). -/
def Obligations.ResetStateMeetsTheInvariants : Prop :=
  State.reset.Inv ∧ ∀ variant build, (State.resetFor variant build).Inv

/-- Cold start under the environment contract (41_controller.md R102; 70_reset_and_hazards.md R160, R161, derived there): from
reset, after 35 tick periods with any samples whose first batch averages to a non-zero Temperature (R78), that average is
the Temperature, and the controller has made its first decision from it: OFF below the low threshold (R95), otherwise the
duty of R96, R120 and R121 (decisions D10, D11) or the level of R97. The report counter is 3 (R99, decision D17). D10 and
D17 are in log entry 8, unsafe. -/
def Obligations.ColdStartRegulatesFromTheFirstBatch : Prop :=
  ∀ variant build (raws : List RawSample) (mean : Int), raws.length = 35 →
    mean = (rawTotal (raws.take 20) / 20 : Nat) + build.cal → mean ≠ 0 →
    ∃ t, runEvents (tickPeriods raws) (State.resetFor variant build) = .next t ∧
      t.temp.toInt = mean ∧ t.accCnt = 15 ∧ t.spinCnt = 33 ∧ t.rptCnt = 3 ∧
      t.st = (if mean < build.low then .off else .running) ∧
      (variant = .aDuty → t.act = .pwm
        (if mean < build.low then 0
         else if build.high ≤ mean then 255
         else BitVec.ofInt 8 (min ((mean - build.low) * 2 + 40) 100 * 255 / 100)) false) ∧
      (variant = .bTwoStage → t.act = .twoStage
        (if mean < build.low then .stopped else if build.high - 2 ≤ mean then .full else .half))

/-- Cold start without a sample (70_reset_and_hazards.md R164, derived there): from reset, over any IDLEs and 34 TICKs, the next
TICK is the first to look at Temperature, finds the sentinel 0, and where `LOW_TH` > 0 turns the fan off. -/
def Obligations.ColdStartWithoutSamplesTurnsOff : Prop :=
  ∀ variant build events, .reset ∉ events → rawSamples events = [] → tickCount events = 34 → 0 < build.low →
    ∃ u t, runEvents events (State.resetFor variant build) = .next u ∧ u.act.drivesFull ∧
      exec .tick u = .next t ∧ t.temp = 0 ∧ t.st = .off ∧ t.act.drivesNothing

/-! ## The driver -/

/-- Variant A outputs (42_actuator.md R116, R117; 60_exceptions.md R142; decisions D12, D22). -/
def Obligations.PwmOutputsShowTheRegisters : Prop :=
  ∀ (s : State) duty force, s.act = .pwm duty force →
    s.outputs.pins = .pwm force duty ∧ s.outputs.statLevel = effDuty duty force ∧
    effDuty duty true = 255 ∧ effDuty duty false = duty ∧ s.outputs.statTemp = s.temp

/-- Variant B outputs: the pin table and status level of 42_actuator.md R118 and 60_exceptions.md R142, with the unreachable
code, and never both pins (R119); decisions D14, D22. -/
def Obligations.TwoStagePinsAreExclusive : Prop :=
  ∀ (s : State) level, s.act = .twoStage level →
    (level = .stopped → s.outputs.pins = .twoStage false false ∧ s.outputs.statLevel = 0) ∧
    (level = .half → s.outputs.pins = .twoStage true false ∧ s.outputs.statLevel = 50) ∧
    (level = .full → s.outputs.pins = .twoStage false true ∧ s.outputs.statLevel = 100) ∧
    (level = .unused → s.outputs.pins = .twoStage false false ∧ s.outputs.statLevel = 0) ∧
    s.outputs.pins ≠ .twoStage true true

/-- The status port shows the encodings of 10_state.md R23 and Temperature (60_exceptions.md R142; decisions D15, D22). -/
def Obligations.StatusPortShowsStateAndTemperature : Prop :=
  ∀ s : State, s.outputs.statTemp = s.temp ∧
    (s.st = .startup → s.outputs.statState = 0b00#2) ∧ (s.st = .fullspeed → s.outputs.statState = 0b01#2) ∧
    (s.st = .running → s.outputs.statState = 0b10#2) ∧ (s.st = .off → s.outputs.statState = 0b11#2)

/-- Monotonicity (42_actuator.md R124, derived there): in RUNNING, variant A, of two states alike but for Temperature, both at or
above the low threshold, the warmer one's TICK sets no lower duty, and no duty is below 102. That both TICKs keep
`force_full` as it was, also in unreachable states with `force_full` = 1, is the model's reading of R96 (log entry 10,
DEDUCED, unsafe in unreachable states). -/
def Obligations.RunningDutyRisesWithTemperature : Prop :=
  ∀ (s : State) (warmer : BitVec 16) duty force, s.st = .running → s.act = .pwm duty force → s.build.low ≤ s.temp.toInt →
    s.temp.toInt ≤ warmer.toInt →
    ∃ d d' : BitVec 8, ∃ t t', exec .tick s = .next t ∧ exec .tick { s with temp := warmer } = .next t' ∧
      t.act = .pwm d force ∧ t'.act = .pwm d' force ∧ 102 ≤ d.toNat ∧ d.toNat ≤ d'.toNat

/-- The two clamps of 42_actuator.md R123 are the same clamp (derived there). -/
def Obligations.PercentAndDutyClampsAgree : Prop :=
  ∀ p : Nat, duty8 (min p 100) = min (duty8 p) 255

/-- The duty table of 42_actuator.md R122 (derived there): a TICK in RUNNING at the reference configuration, for each `temp` from
298 to 327. That the TICK keeps `force_full` as it was, also in unreachable states with `force_full` = 1, is the model's
reading of R96 (log entry 10, DEDUCED, unsafe in unreachable states). -/
def Obligations.ReferenceDutyTable : Prop :=
  ∀ (s : State) duty force (k d : Nat), s.st = .running → s.build = Config.reference → s.act = .pwm duty force →
    s.temp.toInt = 298 + k →
    [102, 107, 112, 117, 122, 127, 132, 137, 142, 147, 153, 158, 163, 168, 173,
     178, 183, 188, 193, 198, 204, 209, 214, 219, 224, 229, 234, 239, 244, 249][k]? = some d →
    ∃ t, exec .tick s = .next t ∧ t.act = .pwm (BitVec.ofNat 8 d) force

/-! ## RESET -/

/-- RESET puts every register into its reset state, whatever the state was, with the fan off and the status port at 0
(70_reset_and_hazards.md R150, decisions D16 to D18). The waiting events stay (log entry 1). -/
def Obligations.ResetSetsEveryRegister : Prop :=
  ∀ s : State, ∃ t, exec .reset s = .next t ∧
    t.st = .startup ∧ t.temp = 0 ∧ t.accSum = 0 ∧ t.accCnt = 0 ∧ t.spinCnt = 0 ∧ t.rptCnt = 0 ∧
    (s.variant = .aDuty → t.act = .pwm 0 false) ∧ (s.variant = .bTwoStage → t.act = .twoStage .stopped) ∧
    t.out = ⟨false, false⟩ ∧ t.build = s.build ∧ t.pending = s.pending ∧
    t.act.drivesNothing ∧ t.outputs.statState = 0 ∧ t.outputs.statTemp = 0 ∧ t.outputs.statLevel = 0

/-- A RESET forgets every event before it (60_exceptions.md R136; 70_reset_and_hazards.md R151; decision D20). -/
def Obligations.ResetForgetsThePast : Prop :=
  ∀ past future (s : State), runEvents (past ++ .reset :: future) s = runEvents (.reset :: future) s

/-! ## Ports and script -/

/-- The steps of one clock cycle (30_encoding.md R63; 60_exceptions.md R133; decision D6). -/
def Obligations.CycleInputsBecomeEvents : Prop :=
  ∀ data,
    (∀ tick valid, PortInputs.words ⟨true, tick, valid, data⟩ = [0xC00]) ∧
    PortInputs.words ⟨false, true, true, data⟩ = [0b10#2 ++ data, 0x400] ∧
    PortInputs.words ⟨false, false, true, data⟩ = [0b10#2 ++ data] ∧
    PortInputs.words ⟨false, true, false, data⟩ = [0x400] ∧
    PortInputs.words ⟨false, false, false, data⟩ = [0x000]

/-- The outputs of a clock cycle, with its strobes ORed over its steps, are those of its last step (30_encoding.md R63): "Only a
TICK drives a strobe, so the OR equals the TICK step's strobes". -/
def Obligations.CycleOutputsAreThoseOfItsLastStep : Prop :=
  ∀ (c : PortInputs) (s : State), ∃ t, runEvents c.events s = .next t ∧ clockCycle c s = .next (t, t.outputs) ∧
    (t.out.convStart = true ↔ c.rst = false ∧ c.tick = true)

/-- The assembler refuses a SAMPLE operand outside [0, 1023] and encodes every other (30_encoding.md R67, decision D25).
`BATCH n` with n above 1023 is refused too: it expands textually to 20 times `SAMPLE n` (R68), and that the refusal falls when
the expanded SAMPLE is checked is the model's choice (log entry 11, DESIGN CHOICE, safe). -/
def Obligations.AssemblerRefusesOutOfRangeSamples : Prop :=
  ∀ n : Nat,
    (n ≤ 1023 → assemble [.event ⟨.sample, some n⟩] = .ok [BitVec.ofNat 12 (0x800 + n)]) ∧
    (1023 < n → assemble [.event ⟨.sample, some n⟩] = .error .badOperand) ∧
    (1023 < n → assemble [.batch n] = .error .badOperand)

/-- `PERIODS n v` assembles to words that decode to n times TICK then SAMPLE v (30_encoding.md R68, decision D25). -/
def Obligations.PeriodsAssembleToTickThenSample : Prop :=
  ∀ n v : Nat, v ≤ 1023 → ∃ words, assemble [.periods n v] = .ok words ∧
    words.map decodeWord = tickPeriods (List.replicate n (BitVec.ofNat 10 v))
end

