-- ==== Sys2Proof/Laws/State.lean ====
section
/-! SUPPORT. One lemma per field per setter, so that no proof unfolds a record update. -/

namespace Sys2Proof.Machine.State

variable (s : State)

/-! ### `setSt` -/

@[simp] theorem setSt_build (v : Phase) : (s.setSt v).build = s.build := rfl
@[simp] theorem setSt_st (v : Phase) : (s.setSt v).st = v := rfl
@[simp] theorem setSt_temp (v : Phase) : (s.setSt v).temp = s.temp := rfl
@[simp] theorem setSt_accSum (v : Phase) : (s.setSt v).accSum = s.accSum := rfl
@[simp] theorem setSt_accCnt (v : Phase) : (s.setSt v).accCnt = s.accCnt := rfl
@[simp] theorem setSt_spinCnt (v : Phase) : (s.setSt v).spinCnt = s.spinCnt := rfl
@[simp] theorem setSt_rptCnt (v : Phase) : (s.setSt v).rptCnt = s.rptCnt := rfl
@[simp] theorem setSt_act (v : Phase) : (s.setSt v).act = s.act := rfl
@[simp] theorem setSt_out (v : Phase) : (s.setSt v).out = s.out := rfl
@[simp] theorem setSt_pending (v : Phase) : (s.setSt v).pending = s.pending := rfl
@[simp] theorem setSt_variant (v : Phase) : (s.setSt v).variant = s.variant := rfl

/-! ### `setTemp` -/

@[simp] theorem setTemp_build (v : BitVec 16) : (s.setTemp v).build = s.build := rfl
@[simp] theorem setTemp_st (v : BitVec 16) : (s.setTemp v).st = s.st := rfl
@[simp] theorem setTemp_temp (v : BitVec 16) : (s.setTemp v).temp = v := rfl
@[simp] theorem setTemp_accSum (v : BitVec 16) : (s.setTemp v).accSum = s.accSum := rfl
@[simp] theorem setTemp_accCnt (v : BitVec 16) : (s.setTemp v).accCnt = s.accCnt := rfl
@[simp] theorem setTemp_spinCnt (v : BitVec 16) : (s.setTemp v).spinCnt = s.spinCnt := rfl
@[simp] theorem setTemp_rptCnt (v : BitVec 16) : (s.setTemp v).rptCnt = s.rptCnt := rfl
@[simp] theorem setTemp_act (v : BitVec 16) : (s.setTemp v).act = s.act := rfl
@[simp] theorem setTemp_out (v : BitVec 16) : (s.setTemp v).out = s.out := rfl
@[simp] theorem setTemp_pending (v : BitVec 16) : (s.setTemp v).pending = s.pending := rfl
@[simp] theorem setTemp_variant (v : BitVec 16) : (s.setTemp v).variant = s.variant := rfl

/-! ### `setAccSum` -/

@[simp] theorem setAccSum_build (v : BitVec 16) : (s.setAccSum v).build = s.build := rfl
@[simp] theorem setAccSum_st (v : BitVec 16) : (s.setAccSum v).st = s.st := rfl
@[simp] theorem setAccSum_temp (v : BitVec 16) : (s.setAccSum v).temp = s.temp := rfl
@[simp] theorem setAccSum_accSum (v : BitVec 16) : (s.setAccSum v).accSum = v := rfl
@[simp] theorem setAccSum_accCnt (v : BitVec 16) : (s.setAccSum v).accCnt = s.accCnt := rfl
@[simp] theorem setAccSum_spinCnt (v : BitVec 16) : (s.setAccSum v).spinCnt = s.spinCnt := rfl
@[simp] theorem setAccSum_rptCnt (v : BitVec 16) : (s.setAccSum v).rptCnt = s.rptCnt := rfl
@[simp] theorem setAccSum_act (v : BitVec 16) : (s.setAccSum v).act = s.act := rfl
@[simp] theorem setAccSum_out (v : BitVec 16) : (s.setAccSum v).out = s.out := rfl
@[simp] theorem setAccSum_pending (v : BitVec 16) : (s.setAccSum v).pending = s.pending := rfl
@[simp] theorem setAccSum_variant (v : BitVec 16) : (s.setAccSum v).variant = s.variant := rfl

/-! ### `setAccCnt` -/

@[simp] theorem setAccCnt_build (v : BitVec 5) : (s.setAccCnt v).build = s.build := rfl
@[simp] theorem setAccCnt_st (v : BitVec 5) : (s.setAccCnt v).st = s.st := rfl
@[simp] theorem setAccCnt_temp (v : BitVec 5) : (s.setAccCnt v).temp = s.temp := rfl
@[simp] theorem setAccCnt_accSum (v : BitVec 5) : (s.setAccCnt v).accSum = s.accSum := rfl
@[simp] theorem setAccCnt_accCnt (v : BitVec 5) : (s.setAccCnt v).accCnt = v := rfl
@[simp] theorem setAccCnt_spinCnt (v : BitVec 5) : (s.setAccCnt v).spinCnt = s.spinCnt := rfl
@[simp] theorem setAccCnt_rptCnt (v : BitVec 5) : (s.setAccCnt v).rptCnt = s.rptCnt := rfl
@[simp] theorem setAccCnt_act (v : BitVec 5) : (s.setAccCnt v).act = s.act := rfl
@[simp] theorem setAccCnt_out (v : BitVec 5) : (s.setAccCnt v).out = s.out := rfl
@[simp] theorem setAccCnt_pending (v : BitVec 5) : (s.setAccCnt v).pending = s.pending := rfl
@[simp] theorem setAccCnt_variant (v : BitVec 5) : (s.setAccCnt v).variant = s.variant := rfl

/-! ### `setSpinCnt` -/

@[simp] theorem setSpinCnt_build (v : BitVec 8) : (s.setSpinCnt v).build = s.build := rfl
@[simp] theorem setSpinCnt_st (v : BitVec 8) : (s.setSpinCnt v).st = s.st := rfl
@[simp] theorem setSpinCnt_temp (v : BitVec 8) : (s.setSpinCnt v).temp = s.temp := rfl
@[simp] theorem setSpinCnt_accSum (v : BitVec 8) : (s.setSpinCnt v).accSum = s.accSum := rfl
@[simp] theorem setSpinCnt_accCnt (v : BitVec 8) : (s.setSpinCnt v).accCnt = s.accCnt := rfl
@[simp] theorem setSpinCnt_spinCnt (v : BitVec 8) : (s.setSpinCnt v).spinCnt = v := rfl
@[simp] theorem setSpinCnt_rptCnt (v : BitVec 8) : (s.setSpinCnt v).rptCnt = s.rptCnt := rfl
@[simp] theorem setSpinCnt_act (v : BitVec 8) : (s.setSpinCnt v).act = s.act := rfl
@[simp] theorem setSpinCnt_out (v : BitVec 8) : (s.setSpinCnt v).out = s.out := rfl
@[simp] theorem setSpinCnt_pending (v : BitVec 8) : (s.setSpinCnt v).pending = s.pending := rfl
@[simp] theorem setSpinCnt_variant (v : BitVec 8) : (s.setSpinCnt v).variant = s.variant := rfl

/-! ### `setRptCnt` -/

@[simp] theorem setRptCnt_build (v : BitVec 5) : (s.setRptCnt v).build = s.build := rfl
@[simp] theorem setRptCnt_st (v : BitVec 5) : (s.setRptCnt v).st = s.st := rfl
@[simp] theorem setRptCnt_temp (v : BitVec 5) : (s.setRptCnt v).temp = s.temp := rfl
@[simp] theorem setRptCnt_accSum (v : BitVec 5) : (s.setRptCnt v).accSum = s.accSum := rfl
@[simp] theorem setRptCnt_accCnt (v : BitVec 5) : (s.setRptCnt v).accCnt = s.accCnt := rfl
@[simp] theorem setRptCnt_spinCnt (v : BitVec 5) : (s.setRptCnt v).spinCnt = s.spinCnt := rfl
@[simp] theorem setRptCnt_rptCnt (v : BitVec 5) : (s.setRptCnt v).rptCnt = v := rfl
@[simp] theorem setRptCnt_act (v : BitVec 5) : (s.setRptCnt v).act = s.act := rfl
@[simp] theorem setRptCnt_out (v : BitVec 5) : (s.setRptCnt v).out = s.out := rfl
@[simp] theorem setRptCnt_pending (v : BitVec 5) : (s.setRptCnt v).pending = s.pending := rfl
@[simp] theorem setRptCnt_variant (v : BitVec 5) : (s.setRptCnt v).variant = s.variant := rfl

/-! ### `setAct` -/

@[simp] theorem setAct_build (v : Actuator) : (s.setAct v).build = s.build := rfl
@[simp] theorem setAct_st (v : Actuator) : (s.setAct v).st = s.st := rfl
@[simp] theorem setAct_temp (v : Actuator) : (s.setAct v).temp = s.temp := rfl
@[simp] theorem setAct_accSum (v : Actuator) : (s.setAct v).accSum = s.accSum := rfl
@[simp] theorem setAct_accCnt (v : Actuator) : (s.setAct v).accCnt = s.accCnt := rfl
@[simp] theorem setAct_spinCnt (v : Actuator) : (s.setAct v).spinCnt = s.spinCnt := rfl
@[simp] theorem setAct_rptCnt (v : Actuator) : (s.setAct v).rptCnt = s.rptCnt := rfl
@[simp] theorem setAct_act (v : Actuator) : (s.setAct v).act = v := rfl
@[simp] theorem setAct_out (v : Actuator) : (s.setAct v).out = s.out := rfl
@[simp] theorem setAct_pending (v : Actuator) : (s.setAct v).pending = s.pending := rfl
@[simp] theorem setAct_variant (v : Actuator) : (s.setAct v).variant = v.variant := rfl

/-! ### `setOut` -/

@[simp] theorem setOut_build (v : Strobes) : (s.setOut v).build = s.build := rfl
@[simp] theorem setOut_st (v : Strobes) : (s.setOut v).st = s.st := rfl
@[simp] theorem setOut_temp (v : Strobes) : (s.setOut v).temp = s.temp := rfl
@[simp] theorem setOut_accSum (v : Strobes) : (s.setOut v).accSum = s.accSum := rfl
@[simp] theorem setOut_accCnt (v : Strobes) : (s.setOut v).accCnt = s.accCnt := rfl
@[simp] theorem setOut_spinCnt (v : Strobes) : (s.setOut v).spinCnt = s.spinCnt := rfl
@[simp] theorem setOut_rptCnt (v : Strobes) : (s.setOut v).rptCnt = s.rptCnt := rfl
@[simp] theorem setOut_act (v : Strobes) : (s.setOut v).act = s.act := rfl
@[simp] theorem setOut_out (v : Strobes) : (s.setOut v).out = v := rfl
@[simp] theorem setOut_pending (v : Strobes) : (s.setOut v).pending = s.pending := rfl
@[simp] theorem setOut_variant (v : Strobes) : (s.setOut v).variant = s.variant := rfl

/-! ### `setPending` -/

@[simp] theorem setPending_build (v : List EventWord) : (s.setPending v).build = s.build := rfl
@[simp] theorem setPending_st (v : List EventWord) : (s.setPending v).st = s.st := rfl
@[simp] theorem setPending_temp (v : List EventWord) : (s.setPending v).temp = s.temp := rfl
@[simp] theorem setPending_accSum (v : List EventWord) : (s.setPending v).accSum = s.accSum := rfl
@[simp] theorem setPending_accCnt (v : List EventWord) : (s.setPending v).accCnt = s.accCnt := rfl
@[simp] theorem setPending_spinCnt (v : List EventWord) : (s.setPending v).spinCnt = s.spinCnt := rfl
@[simp] theorem setPending_rptCnt (v : List EventWord) : (s.setPending v).rptCnt = s.rptCnt := rfl
@[simp] theorem setPending_act (v : List EventWord) : (s.setPending v).act = s.act := rfl
@[simp] theorem setPending_out (v : List EventWord) : (s.setPending v).out = s.out := rfl
@[simp] theorem setPending_pending (v : List EventWord) : (s.setPending v).pending = v := rfl
@[simp] theorem setPending_variant (v : List EventWord) : (s.setPending v).variant = s.variant := rfl

/-! ### `quiet` -/

@[simp] theorem quiet_build : s.quiet.build = s.build := rfl
@[simp] theorem quiet_st : s.quiet.st = s.st := rfl
@[simp] theorem quiet_temp : s.quiet.temp = s.temp := rfl
@[simp] theorem quiet_accSum : s.quiet.accSum = s.accSum := rfl
@[simp] theorem quiet_accCnt : s.quiet.accCnt = s.accCnt := rfl
@[simp] theorem quiet_spinCnt : s.quiet.spinCnt = s.spinCnt := rfl
@[simp] theorem quiet_rptCnt : s.quiet.rptCnt = s.rptCnt := rfl
@[simp] theorem quiet_act : s.quiet.act = s.act := rfl
@[simp] theorem quiet_out : s.quiet.out = ⟨false, false⟩ := rfl
@[simp] theorem quiet_pending : s.quiet.pending = s.pending := rfl
@[simp] theorem quiet_variant : s.quiet.variant = s.variant := rfl

/-! ### `resetBlock` (70_reset_and_hazards.md R150) -/

@[simp] theorem resetBlock_build : s.resetBlock.build = s.build := rfl
@[simp] theorem resetBlock_st : s.resetBlock.st = .startup := rfl
@[simp] theorem resetBlock_temp : s.resetBlock.temp = 0 := rfl
@[simp] theorem resetBlock_accSum : s.resetBlock.accSum = 0 := rfl
@[simp] theorem resetBlock_accCnt : s.resetBlock.accCnt = 0 := rfl
@[simp] theorem resetBlock_spinCnt : s.resetBlock.spinCnt = 0 := rfl
@[simp] theorem resetBlock_rptCnt : s.resetBlock.rptCnt = 0 := rfl
@[simp] theorem resetBlock_act : s.resetBlock.act = Actuator.atReset s.variant := rfl
@[simp] theorem resetBlock_out : s.resetBlock.out = ⟨false, false⟩ := rfl
@[simp] theorem resetBlock_pending : s.resetBlock.pending = s.pending := rfl

/-- A build has the shape its variant names, also after reset. -/
@[simp] theorem atReset_variant (v : Config.Variant) : (Actuator.atReset v).variant = v := by cases v <;> rfl

@[simp] theorem resetBlock_variant : s.resetBlock.variant = s.variant := atReset_variant _

/-! ### Fields decide a state -/

/-- Two states with the same fields are the same state. -/
theorem ext_fields {s t : State} (build : s.build = t.build) (st : s.st = t.st) (temp : s.temp = t.temp)
    (accSum : s.accSum = t.accSum) (accCnt : s.accCnt = t.accCnt) (spinCnt : s.spinCnt = t.spinCnt)
    (rptCnt : s.rptCnt = t.rptCnt) (act : s.act = t.act) (out : s.out = t.out) (pending : s.pending = t.pending) :
    s = t := by
  cases s
  cases t
  simp_all

end Sys2Proof.Machine.State
end

