-- ==== Sys2Proof/Laws/Words.lean ====
section
/-! SUPPORT. What a store leaves in a register (00_scope.md R12), the constants of 00_scope.md R8, and the fields of an event
word. -/

namespace Sys2Proof.Machine

/-! ## Constants -/

@[simp] theorem batchSize_eq : batchSize = 20 := rfl
@[simp] theorem spinupLimit_eq : spinupLimit = 32 := rfl
@[simp] theorem minDuty_eq : minDuty = 40 := rfl
@[simp] theorem dutySlope_eq : dutySlope = 2 := rfl
@[simp] theorem fullPercent_eq : fullPercent = 100 := rfl
@[simp] theorem hysteresis_eq : hysteresis = 2 := rfl
@[simp] theorem dutyMax_eq : dutyMax = 255 := rfl
@[simp] theorem reportPeriod_eq : reportPeriod = 32 := rfl

/-! ## Stores -/

/-- A value that fits is stored as it is. -/
theorem zext_toNat {n v : Nat} (h : v < 2 ^ n) : (zext n v).toNat = v := by
  simp [zext, Nat.mod_eq_of_lt h]

/-- A signed value that fits in 16 bits is stored as it is. -/
theorem sext16_toInt {v : Int} (lo : -32768 ≤ v) (hi : v ≤ 32767) : (sext 16 v).toInt = v := by
  rw [sext, BitVec.toInt_ofInt, Int.bmod_def]
  split <;> omega

/-- The raw operand is at most 1023 and is the field's value (30_encoding.md R64). -/
@[simp] theorem rawValue_eq (raw : RawSample) : rawValue raw = raw.toNat := by
  have := raw.isLt
  simp [rawValue]
  omega

theorem raw_le (raw : RawSample) : raw.toNat ≤ 1023 := by
  have := raw.isLt
  omega

/-- `CAL_OFFSET` is in its legal range (00_scope.md R9). -/
theorem cal_range (b : Config.Build) : -1024 ≤ b.cal ∧ b.cal ≤ 1023 := by
  have lo := BitVec.le_toInt b.calOffset
  have hi := BitVec.toInt_lt (x := b.calOffset)
  simp only [Config.Build.cal]
  constructor <;> omega

/-- `temp` is at the sentinel exactly when its signed value is 0. -/
theorem temp_zero_iff (x : BitVec 16) : x = 0 ↔ x.toInt = 0 := by
  constructor
  · rintro rfl
    rfl
  · intro h
    exact BitVec.eq_of_toInt_eq (by simpa using h)

end Sys2Proof.Machine

namespace Sys2Proof

/-! ## Event words (30_encoding.md R61) -/

@[simp] theorem kindBits_append (k : BitVec 2) (d : BitVec 10) : kindBits (k ++ d) = k := by
  apply BitVec.eq_of_getLsbD_eq
  intro i hi
  rw [kindBits, BitVec.getLsbD_extractLsb', BitVec.getLsbD_append]
  simp [hi]

@[simp] theorem dataBits_append (k : BitVec 2) (d : BitVec 10) : dataBits (k ++ d) = d := by
  apply BitVec.eq_of_getLsbD_eq
  intro i hi
  rw [dataBits, BitVec.getLsbD_extractLsb', BitVec.getLsbD_append]
  simp [hi]

/-- A word is its kind above its data. -/
theorem kindBits_append_dataBits (ev : EventWord) : kindBits ev ++ dataBits ev = ev := by
  apply BitVec.eq_of_getLsbD_eq
  intro i hi
  rw [BitVec.getLsbD_append]
  by_cases h : i < 10
  · simp [dataBits, h]
  · have h1 : i - 10 < 2 := by omega
    have h2 : 10 + (i - 10) = i := by omega
    simp [kindBits, h, h1, h2]

/-- The two bytes of a word are read back as the word. -/
theorem decodeBytes_wordBytes (ev : EventWord) (rest : List Byte) :
    decodeBytes (wordBytes ev ++ rest) = .ok (decodeWord ev, rest) := by
  have small : ((ev.extractLsb' 8 4).setWidth 8).toNat < 16 := by
    have := (ev.extractLsb' 8 4).isLt
    simp only [BitVec.toNat_setWidth]
    omega
  have back : ((ev.extractLsb' 8 4).setWidth 8).setWidth 4 ++ ev.setWidth 8 = ev := by
    apply BitVec.eq_of_getLsbD_eq
    intro i hi
    rw [BitVec.getLsbD_append]
    by_cases h : i < 8
    · simp [h]
    · have h1 : i - 8 < 4 := by omega
      have h2 : 8 + (i - 8) = i := by omega
      simp [h, h1, h2]
  simp only [wordBytes, List.cons_append, List.nil_append, decodeBytes, small, if_true]
  exact congrArg (fun w => Except.ok (decodeWord w, rest)) back

end Sys2Proof
end

