-- ==== Sys2Proof/Laws/Exec.lean ====
section
/-! SUPPORT. What each event does, once: the state after it, field by field. Every later proof cites these and unfolds no
meaning. -/

namespace Sys2Proof.Machine

/-! ## The state after one event -/

/-- The state SAMPLE leaves. -/
def afterSample (raw : RawSample) (s : State) : State :=
  (closeBatch (sampleSum raw s) (sampleCount s) (seedTemperature (sampleSum raw s) s)).quiet

/-- The state an event leaves. -/
def after : Instr → State → State
  | .idle, s => s.quiet
  | .tick, s => finishTick (controllerArm s)
  | .sample raw, s => afterSample raw s
  | .reset, s => s.resetBlock

/-- Every event answers a next state, and this is the one. -/
theorem exec_eq (i : Instr) (s : State) : exec i s = .next (after i s) := by
  cases i <;> rfl

/-- The only state an event can lead to. -/
theorem exec_next_iff {i : Instr} {s t : State} : exec i s = .next t ↔ t = after i s := by
  rw [exec_eq]
  constructor
  · intro h
    cases h
    rfl
  · rintro rfl
    rfl

/-! ## SAMPLE, field by field (40_sampler.md R75) -/

section sample
variable (raw : RawSample) (s : State)

@[simp] theorem seedTemperature_build (n : Nat) : (seedTemperature n s).build = s.build := by
  unfold seedTemperature; split <;> rfl
@[simp] theorem seedTemperature_st (n : Nat) : (seedTemperature n s).st = s.st := by
  unfold seedTemperature; split <;> rfl
@[simp] theorem seedTemperature_spinCnt (n : Nat) : (seedTemperature n s).spinCnt = s.spinCnt := by
  unfold seedTemperature; split <;> rfl
@[simp] theorem seedTemperature_rptCnt (n : Nat) : (seedTemperature n s).rptCnt = s.rptCnt := by
  unfold seedTemperature; split <;> rfl
@[simp] theorem seedTemperature_act (n : Nat) : (seedTemperature n s).act = s.act := by
  unfold seedTemperature; split <;> rfl
@[simp] theorem seedTemperature_pending (n : Nat) : (seedTemperature n s).pending = s.pending := by
  unfold seedTemperature; split <;> rfl

/-- The seed writes `temp` exactly at the sentinel (40_sampler.md R77). -/
theorem seedTemperature_temp (n : Nat) :
    (seedTemperature n s).temp = if s.temp = 0 then sext 16 (n + s.build.cal) else s.temp := by
  unfold seedTemperature State.atSentinel
  by_cases h : s.temp = 0
  · rw [if_pos (decide_eq_true h), if_pos h]
    rfl
  · rw [if_neg (by simpa using h), if_neg h]

@[simp] theorem afterSample_build : (afterSample raw s).build = s.build := by
  unfold afterSample closeBatch; split <;> simp
@[simp] theorem afterSample_st : (afterSample raw s).st = s.st := by
  unfold afterSample closeBatch; split <;> simp
@[simp] theorem afterSample_spinCnt : (afterSample raw s).spinCnt = s.spinCnt := by
  unfold afterSample closeBatch; split <;> simp
@[simp] theorem afterSample_rptCnt : (afterSample raw s).rptCnt = s.rptCnt := by
  unfold afterSample closeBatch; split <;> simp
@[simp] theorem afterSample_act : (afterSample raw s).act = s.act := by
  unfold afterSample closeBatch; split <;> simp
@[simp] theorem afterSample_pending : (afterSample raw s).pending = s.pending := by
  unfold afterSample closeBatch; split <;> simp
@[simp] theorem afterSample_out : (afterSample raw s).out = ⟨false, false⟩ := by
  unfold afterSample; rfl

/-- `acc_cnt` after a SAMPLE (40_sampler.md R76, R78). -/
theorem afterSample_accCnt :
    (afterSample raw s).accCnt = if s.accCnt.toNat = 19 then 0 else zext 5 (s.accCnt.toNat + 1) := by
  unfold afterSample closeBatch sampleCount
  by_cases h : s.accCnt.toNat = 19 <;> simp [h]

/-- `acc_sum` after a SAMPLE (40_sampler.md R76, R78). -/
theorem afterSample_accSum :
    (afterSample raw s).accSum = if s.accCnt.toNat = 19 then 0 else zext 16 (s.accSum.toNat + raw.toNat) := by
  unfold afterSample closeBatch sampleCount sampleSum
  by_cases h : s.accCnt.toNat = 19 <;> simp [h]

/-- `temp` after a SAMPLE: the batch value wins over the seed (40_sampler.md R77, R78). -/
theorem afterSample_temp :
    (afterSample raw s).temp =
      if s.accCnt.toNat = 19 then sext 16 (((s.accSum.toNat + raw.toNat) / 20 : Nat) + s.build.cal)
      else if s.temp = 0 then sext 16 ((s.accSum.toNat + raw.toNat : Nat) + s.build.cal) else s.temp := by
  unfold afterSample closeBatch sampleCount sampleSum
  by_cases h : s.accCnt.toNat = 19 <;> simp [h, seedTemperature_temp]

/-- `temp` after a SAMPLE, as a function of the registers the sampler reads. -/
def sampledTemp (build : Config.Build) (temp sum : BitVec 16) (cnt : BitVec 5) : BitVec 16 :=
  if cnt.toNat = 19 then sext 16 (((sum.toNat + raw.toNat) / 20 : Nat) + build.cal)
  else if temp = 0 then sext 16 ((sum.toNat + raw.toNat : Nat) + build.cal) else temp

/-- `acc_sum` after a SAMPLE, as a function of the registers the sampler reads. -/
def sampledSum (sum : BitVec 16) (cnt : BitVec 5) : BitVec 16 :=
  if cnt.toNat = 19 then 0 else zext 16 (sum.toNat + raw.toNat)

/-- `acc_cnt` after a SAMPLE, as a function of itself. -/
def sampledCnt (cnt : BitVec 5) : BitVec 5 := if cnt.toNat = 19 then 0 else zext 5 (cnt.toNat + 1)

/-- A SAMPLE is a function of the registers it reads, and writes three registers and the strobes. -/
theorem afterSample_eq :
    afterSample raw s =
      (((s.setTemp (sampledTemp raw s.build s.temp s.accSum s.accCnt)).setAccSum
        (sampledSum raw s.accSum s.accCnt)).setAccCnt (sampledCnt s.accCnt)).quiet := by
  apply State.ext_fields <;>
    simp [afterSample_temp, afterSample_accSum, afterSample_accCnt, sampledTemp, sampledSum, sampledCnt]

end sample

/-! ## TICK, field by field (41_controller.md R90) -/

section tick
variable (s : State)

@[simp] theorem finishTick_st : (finishTick s).st = s.st := rfl
@[simp] theorem finishTick_spinCnt : (finishTick s).spinCnt = s.spinCnt := rfl
@[simp] theorem finishTick_act : (finishTick s).act = s.act := rfl
@[simp] theorem finishTick_temp : (finishTick s).temp = s.temp := rfl
@[simp] theorem finishTick_accSum : (finishTick s).accSum = s.accSum := rfl
@[simp] theorem finishTick_accCnt : (finishTick s).accCnt = s.accCnt := rfl
@[simp] theorem finishTick_build : (finishTick s).build = s.build := rfl
@[simp] theorem finishTick_pending : (finishTick s).pending = s.pending := rfl

/-- A state arm leaves every register but `st`, `spin_cnt` and the level registers as it was. -/
theorem controllerArm_frame :
    (controllerArm s).temp = s.temp ∧ (controllerArm s).accSum = s.accSum ∧ (controllerArm s).accCnt = s.accCnt ∧
    (controllerArm s).rptCnt = s.rptCnt ∧ (controllerArm s).build = s.build ∧ (controllerArm s).out = s.out ∧
    (controllerArm s).pending = s.pending := by
  unfold controllerArm
  split
  · simp [armStartup]
  · unfold armFullspeed
    dsimp only
    split <;> simp
  · unfold armRunning
    split <;> simp
  · unfold armOff
    split <;> simp

@[simp] theorem controllerArm_temp : (controllerArm s).temp = s.temp := (controllerArm_frame s).1
@[simp] theorem controllerArm_accSum : (controllerArm s).accSum = s.accSum := (controllerArm_frame s).2.1
@[simp] theorem controllerArm_accCnt : (controllerArm s).accCnt = s.accCnt := (controllerArm_frame s).2.2.1
@[simp] theorem controllerArm_rptCnt : (controllerArm s).rptCnt = s.rptCnt := (controllerArm_frame s).2.2.2.1
@[simp] theorem controllerArm_build : (controllerArm s).build = s.build := (controllerArm_frame s).2.2.2.2.1
@[simp] theorem controllerArm_pending : (controllerArm s).pending = s.pending := (controllerArm_frame s).2.2.2.2.2.2

/-- Everything a STARTUP arm does (R92). -/
theorem controllerArm_startup (h : s.st = .startup) : controllerArm s = armStartup s := by
  simp [controllerArm, h]

/-- A FULLSPEED arm that stays (R93). -/
theorem controllerArm_fullspeed_stays (h : s.st = .fullspeed) (n : s.spinCnt.toNat + 1 ≤ 32) :
    controllerArm s = s.setSpinCnt (zext 8 (s.spinCnt.toNat + 1)) := by
  have : ¬ s.spinCnt.toNat + 1 > spinupLimit := by simp; omega
  simp only [controllerArm, h, armFullspeed, this, if_false]

/-- A FULLSPEED arm that leaves (R93, R94). -/
theorem controllerArm_fullspeed_leaves (h : s.st = .fullspeed) (n : s.spinCnt.toNat + 1 > 32) :
    controllerArm s =
      ((s.setSpinCnt (zext 8 (s.spinCnt.toNat + 1))).setSt .running).setAct s.act.regulated := by
  have : s.spinCnt.toNat + 1 > spinupLimit := by simp; omega
  simp only [controllerArm, h, armFullspeed, this, if_true]

/-- A RUNNING arm below the low threshold (R95). -/
theorem controllerArm_running_below (h : s.st = .running) (n : s.temp.toInt < s.build.low) :
    controllerArm s = (s.setAct s.act.stopped).setSt .off := by
  simp [controllerArm, h, armRunning, State.belowLow, State.temperature, n]

/-- A RUNNING arm at or above the low threshold (R96, R97). -/
theorem controllerArm_running_above (h : s.st = .running) (n : s.build.low ≤ s.temp.toInt) :
    controllerArm s = s.setAct (runningActuator s) := by
  simp [controllerArm, h, armRunning, State.belowLow, State.temperature, Int.not_lt.mpr n]

/-- An OFF arm that stays (R98). -/
theorem controllerArm_off_stays (h : s.st = .off) (n : s.temp.toInt ≤ s.build.low + 2) : controllerArm s = s := by
  simp [controllerArm, h, armOff, State.aboveRestart, State.temperature, Int.not_lt.mpr n]

/-- An OFF arm that leaves (R98). -/
theorem controllerArm_off_leaves (h : s.st = .off) (n : s.build.low + 2 < s.temp.toInt) :
    controllerArm s = s.setSt .startup := by
  simp [controllerArm, h, armOff, State.aboveRestart, State.temperature, n]

/-- What `running_A` and `running_B` decide (R96, R97). -/
theorem runningActuator_pwm {duty : BitVec 8} {force : Bool} (h : s.act = .pwm duty force) :
    runningActuator s =
      .pwm (if s.build.high ≤ s.temp.toInt then 255 else bandDuty s.temp.toInt s.build.low) force := by
  simp [runningActuator, h, runningDuty, State.atOrAboveHigh, State.temperature]

theorem runningActuator_twoStage {level : Level} (h : s.act = .twoStage level) :
    runningActuator s =
      .twoStage (if s.build.high ≤ s.temp.toInt then .full
        else if s.temp.toInt < s.build.high - 2 then .half else level) := by
  unfold runningActuator runningLevel State.atOrAboveHigh State.belowStickyBand State.temperature
  by_cases high : s.build.high ≤ s.temp.toInt <;> by_cases band : s.temp.toInt < s.build.high - 2 <;>
    simp [h, high, band]

/-- The report counter after a TICK (R99). -/
theorem finishTick_rptCnt : (finishTick s).rptCnt = s.rptCnt + 1 := by
  apply BitVec.eq_of_toNat_eq
  simp [finishTick, nextReportCount, zext, BitVec.toNat_add]

/-- The strobes of a TICK (R99, R100). -/
theorem finishTick_out : (finishTick s).out = ⟨true, decide ((s.rptCnt.toNat + 1) % 32 = 0)⟩ := rfl

@[simp] theorem forced_variant (a : Actuator) : a.forced.variant = a.variant := by cases a <;> rfl
@[simp] theorem regulated_variant (a : Actuator) : a.regulated.variant = a.variant := by cases a <;> rfl
@[simp] theorem stopped_variant (a : Actuator) : a.stopped.variant = a.variant := by cases a <;> rfl
@[simp] theorem runningActuator_variant : (runningActuator s).variant = s.variant := by
  unfold runningActuator State.variant
  split <;> simp_all [Actuator.variant]

/-- A state arm keeps the variant. -/
@[simp] theorem controllerArm_variant : (controllerArm s).variant = s.variant := by
  unfold controllerArm
  split
  · simp [armStartup, State.variant]
  · unfold armFullspeed
    dsimp only
    split <;> simp [State.variant]
  · unfold armRunning
    split <;> simp [State.variant]
  · unfold armOff
    split <;> simp

/-- What a state arm decides, as a function of the registers it reads: the build, `st`, `temp`, `spin_cnt` and the level
registers. The other registers of the argument are 0. -/
def controlOf (build : Config.Build) (st : Phase) (temp : BitVec 16) (spin : BitVec 8) (act : Actuator) : State :=
  controllerArm ⟨build, st, temp, 0, 0, spin, 0, act, ⟨false, false⟩, []⟩

/-- A state arm is a function of the registers it reads, and writes three registers. -/
theorem controllerArm_eq :
    controllerArm s =
      ((s.setSt (controlOf s.build s.st s.temp s.spinCnt s.act).st).setSpinCnt
        (controlOf s.build s.st s.temp s.spinCnt s.act).spinCnt).setAct
        (controlOf s.build s.st s.temp s.spinCnt s.act).act := by
  obtain ⟨build, st, temp, accSum, accCnt, spin, rpt, act, out, pending⟩ := s
  cases st
  · rfl
  · by_cases h : spin.toNat + 1 > spinupLimit
    · simp only [controlOf, controllerArm, armFullspeed, h, if_true]; rfl
    · simp only [controlOf, controllerArm, armFullspeed, h, if_false]; rfl
  · by_cases h : temp.toInt < build.low
    · simp only [controlOf, controllerArm, armRunning, State.belowLow, State.temperature, h, decide_true, if_true]; rfl
    · simp only [controlOf, controllerArm, armRunning, State.belowLow, State.temperature, h, decide_false]; rfl
  · by_cases h : temp.toInt > build.low + hysteresis
    · simp only [controlOf, controllerArm, armOff, State.aboveRestart, State.temperature, h, decide_true, if_true]; rfl
    · simp only [controlOf, controllerArm, armOff, State.aboveRestart, State.temperature, h, decide_false]; rfl

end tick

/-- No event looks at the events that wait behind it. -/
theorem after_setPending (i : Instr) (s : State) (waiting : List EventWord) :
    after i (s.setPending waiting) = (after i s).setPending waiting := by
  cases i with
  | idle => rfl
  | tick => simp only [after, controllerArm_eq (s.setPending waiting), controllerArm_eq s]; rfl
  | sample raw => simp only [after, afterSample_eq raw (s.setPending waiting), afterSample_eq raw s]; rfl
  | reset => rfl

/-! ## Runs -/

/-- The state after a list of events. -/
def afterAll : List Instr → State → State
  | [], s => s
  | i :: rest, s => afterAll rest (after i s)

/-- A run never stops short. -/
theorem runEvents_eq (events : List Instr) (s : State) : runEvents events s = .next (afterAll events s) := by
  induction events generalizing s with
  | nil => rfl
  | cons i rest ih => simp [runEvents, exec_eq, andThen, ih, afterAll]

/-- A run of two lists is the run of the second from where the first ends. -/
theorem afterAll_append (first second : List Instr) (s : State) :
    afterAll (first ++ second) s = afterAll second (afterAll first s) := by
  induction first generalizing s with
  | nil => rfl
  | cons i rest ih => simp [afterAll, ih]

/-- What every event of a list keeps, the run of the list keeps. -/
theorem afterAll_keeps {P : State → Prop} {events : List Instr}
    (keeps : ∀ i ∈ events, ∀ s, P s → P (after i s)) {s : State} (h : P s) : P (afterAll events s) := by
  induction events generalizing s with
  | nil => exact h
  | cons i rest ih =>
    exact ih (fun j hj => keeps j (List.mem_cons_of_mem i hj)) (keeps i (List.mem_cons_self ..) s h)

/-- What holds before every TICK of a run holds at its head, and of the rest of the run. -/
theorem BeforeEveryTick.cons {P : State → Prop} {i : Instr} {rest : List Instr} {s : State}
    (h : BeforeEveryTick P (i :: rest) s) : (i = .tick → P s) ∧ BeforeEveryTick P rest (after i s) := by
  constructor
  · rintro rfl
    exact h [] rest s rfl rfl
  · intro before behind u split run
    refine h (i :: before) behind u (by simp [split]) ?_
    simpa [runEvents, exec_eq, andThen] using run

/-- No event changes the build, the variant, or the waiting events. -/
theorem after_keeps (i : Instr) (s : State) :
    (after i s).build = s.build ∧ (after i s).variant = s.variant ∧ (after i s).pending = s.pending := by
  cases i with
  | idle => simp [after]
  | tick => exact ⟨by simp [after], controllerArm_variant s, by simp [after]⟩
  | sample raw => exact ⟨by simp [after], congrArg Actuator.variant (afterSample_act raw s), by simp [after]⟩
  | reset => simp [after]

end Sys2Proof.Machine
end

