-- ==== Sys2Proof/Laws/PerInstr.lean ====
section
/-! SUPPORT. Laws of the events as terms, one lemma per constructor. -/

namespace Sys2Proof.Laws.TableRow

/-- The event is well formed, and its word belongs to the one row of the opcode table that has its mnemonic. -/
def Statement (i : Instr) : Prop :=
  i.wellFormed = true ∧
  ∃ row ∈ opcodeTable, row.mnemonic = i.mnemonic ∧ row.accepts (encode i) = true

theorem idle : Statement .idle := ⟨rfl, ⟨"IDLE", 0x000, 0xC00⟩, by decide, rfl, by decide⟩

theorem tick : Statement .tick := ⟨rfl, ⟨"TICK", 0x400, 0xC00⟩, by decide, rfl, by decide⟩

theorem sample (raw : RawSample) : Statement (.sample raw) := by
  refine ⟨?_, ⟨"SAMPLE", 0x800, 0xC00⟩, by decide, rfl, ?_⟩
  · have := raw.isLt
    exact decide_eq_true (show raw.toNat ≤ 1023 by omega)
  · rw [TableRow.accepts, beq_iff_eq]
    apply BitVec.eq_of_getLsbD_eq
    intro i hi
    rw [BitVec.getLsbD_and, encode, BitVec.getLsbD_append]
    interval_cases i <;> simp [Instr.kindCode]

theorem reset : Statement .reset := ⟨rfl, ⟨"RESET", 0xC00, 0xC00⟩, by decide, rfl, by decide⟩

end Sys2Proof.Laws.TableRow
end

