-- ==== Sys2Proof/Tests/Slice0.lean ====
section
/-! SUPPORT. Tests. Expected results are the spec's own: the words of 30_encoding.md R61 and R69 and the vectors of
95_test_vectors.md, named at each test. The second part meets the hypotheses of every obligation that has some. -/

namespace Sys2Proof.Tests

open Sys2Proof Sys2Proof.Machine

/-! ## Helpers -/

/-- The next state, if there is one. -/
def next? {σ φ ρ : Type} : Host.Outcome σ φ ρ → Option σ
  | .next s => some s
  | .fault _ => none
  | .refused _ => none

/-- A state at the reference configuration, with the accumulator empty and no report due. -/
def at_ (st : Phase) (temp : BitVec 16) (spin : BitVec 8) (act : Actuator) : State :=
  { State.reset with st := st, temp := temp, spinCnt := spin, act := act }

/-- The reference configuration with other thresholds. -/
def thresholds (low high : BitVec 16) (s : State) : State := { s with build := ⟨-3, low, high⟩ }

/-- A reset state with other sampler registers. -/
def sampler (temp sum : BitVec 16) (cnt : BitVec 5) : State :=
  { State.reset with temp := temp, accSum := sum, accCnt := cnt }

/-- What a controller vector of 95_test_vectors.md shows after an event: `st`, `spin_cnt`, the actuator. -/
def control (i : Instr) (s : State) : Option (Phase × BitVec 8 × Actuator) :=
  (next? (exec i s)).map fun t => (t.st, t.spinCnt, t.act)

/-- What a sampler vector shows after an event: `temp`, `acc_sum`, `acc_cnt`. -/
def sampled (i : Instr) (s : State) : Option (BitVec 16 × BitVec 16 × BitVec 5) :=
  (next? (exec i s)).map fun t => (t.temp, t.accSum, t.accCnt)

/-! ## Decoding: words written out from 30_encoding.md R61 -/

theorem test_decode_idle : decodeWord 0b00_0000000000#12 = .idle ∧ decodeWord 0b00_1111111111#12 = .idle := by decide
theorem test_decode_tick : decodeWord 0b01_0000000000#12 = .tick ∧ decodeWord 0b01_1111111111#12 = .tick := by decide
theorem test_decode_sample :
    decodeWord 0b10_0100101101#12 = .sample 301 ∧ decodeWord 0b10_0000000001#12 = .sample 1 ∧
    decodeWord 0b10_1000000000#12 = .sample 512 ∧ decodeWord 0b10_1111111111#12 = .sample 1023 := by decide
theorem test_decode_reset : decodeWord 0b11_0000000000#12 = .reset ∧ decodeWord 0b11_1111111111#12 = .reset := by decide

/-- 30_encoding.md R69. -/
theorem test_encode :
    encode .tick = 0x400 ∧ encode .reset = 0xC00 ∧ encode .idle = 0x000 ∧ encode (.sample 301) = 0x92D ∧
    encode (.sample 250) = 0x8FA ∧ encode (.sample 330) = 0x94A ∧ encode (.sample 1023) = 0xBFF := by decide

theorem test_decode_table_word :
    decodeTableWord 16 0x000 = some .idle ∧ decodeTableWord 16 0x7FF = some .tick ∧
    decodeTableWord 16 0x92D = some (.sample 301) ∧ decodeTableWord 16 0xC00 = some .reset ∧
    decodeTableWord 16 0x1000 = none := by decide

/-! ## Well-formedness: a refused term for each check (30_encoding.md R67) -/

theorem test_ill_formed_sample_out_of_range : Written.wellFormed ⟨.sample, some 1024⟩ = false := by decide
theorem test_ill_formed_sample_without_operand : Written.wellFormed ⟨.sample, none⟩ = false := by decide
theorem test_ill_formed_operand_of_idle : Written.wellFormed ⟨.idle, some 0⟩ = false := by decide
theorem test_ill_formed_operand_of_tick : Written.wellFormed ⟨.tick, some 0⟩ = false := by decide
theorem test_ill_formed_operand_of_reset : Written.wellFormed ⟨.reset, some 0⟩ = false := by decide
theorem test_well_formed_largest_sample : Written.wellFormed ⟨.sample, some 1023⟩ = true := by decide

/-! ## Events -/

/-- R66: IDLE keeps every register and takes the strobes of the step before away. -/
theorem test_idle :
    next? (exec .idle { State.reset with temp := 298, rptCnt := 7, out := ⟨true, true⟩ }) =
      some { State.reset with temp := 298, rptCnt := 7 } := by decide

/-- C-1, C-3, C-4, C-6, C-7, C-8, C-10, C-11, C-19, C-20, C-24, C-25, C-26. -/
theorem test_tick_variant_a :
    [ control .tick State.reset,
      control .tick (at_ .fullspeed 298 31 (.pwm 0 true)),
      control .tick (at_ .fullspeed 298 32 (.pwm 0 true)),
      control .tick (at_ .running 297 33 (.pwm 255 false)),
      control .tick (at_ .running 298 33 (.pwm 255 false)),
      control .tick (at_ .running 313 33 (.pwm 102 false)),
      control .tick (at_ .running 328 33 (.pwm 102 false)),
      control .tick (at_ .running 0 33 (.pwm 255 false)),
      control .tick (at_ .off 300 33 (.pwm 0 false)),
      control .tick (at_ .off 301 33 (.pwm 0 false)),
      control .tick (thresholds 330 300 (at_ .running 320 33 (.pwm 255 false))),
      control .tick (thresholds 330 300 (at_ .running 335 33 (.pwm 0 false))),
      control .tick (thresholds 298 400 (at_ .running 340 33 (.pwm 102 false))) ] =
    [ some (.fullspeed, 0, .pwm 0 true),
      some (.fullspeed, 32, .pwm 0 true),
      some (.running, 33, .pwm 255 false),
      some (.off, 33, .pwm 0 false),
      some (.running, 33, .pwm 102 false),
      some (.running, 33, .pwm 178 false),
      some (.running, 33, .pwm 255 false),
      some (.off, 33, .pwm 0 false),
      some (.off, 33, .pwm 0 false),
      some (.startup, 33, .pwm 0 false),
      some (.off, 33, .pwm 0 false),
      some (.running, 33, .pwm 255 false),
      some (.running, 33, .pwm 255 false) ] := by
  decide

/-- C-2, C-5, C-12 to C-18, C-21, and the report counter of C-22, C-23. -/
theorem test_tick_variant_b_and_report :
    [ control .tick (at_ .startup 327 33 (.twoStage .stopped)),
      control .tick (at_ .fullspeed 298 32 (.twoStage .full)),
      control .tick (at_ .running 328 33 (.twoStage .half)),
      control .tick (at_ .running 327 33 (.twoStage .full)),
      control .tick (at_ .running 326 33 (.twoStage .full)),
      control .tick (at_ .running 325 33 (.twoStage .full)),
      control .tick (at_ .running 327 33 (.twoStage .half)),
      control .tick (at_ .running 297 33 (.twoStage .full)),
      control .tick (at_ .off (-3) 33 (.twoStage .stopped)) ] =
    [ some (.fullspeed, 0, .twoStage .full),
      some (.running, 33, .twoStage .full),
      some (.running, 33, .twoStage .full),
      some (.running, 33, .twoStage .full),
      some (.running, 33, .twoStage .full),
      some (.running, 33, .twoStage .half),
      some (.running, 33, .twoStage .half),
      some (.off, 33, .twoStage .stopped),
      some (.off, 33, .twoStage .stopped) ] ∧
    (next? (exec .tick { State.reset with rptCnt := 31 })).map (fun t => (t.rptCnt, t.out)) =
      some (0, ⟨true, true⟩) ∧
    (next? (exec .tick State.reset)).map (fun t => (t.rptCnt, t.out)) = some (1, ⟨true, false⟩) := by
  decide

/-- S-1, S-2, S-4 (its last sample), S-6, S-7 (its last sample). -/
theorem test_sample_accumulates_and_averages :
    sampled (.sample 301) State.reset = some (298, 301, 1) ∧
    sampled (.sample 310) (sampler 298 301 1) = some (298, 611, 2) ∧
    sampled (.sample 320) (sampler 298 5719 19) = some (298, 0, 0) ∧
    sampled (.sample 0) State.reset = some (0xFFFD, 0, 1) ∧
    sampled (.sample 1023) (sampler 1020 19437 19) = some (1020, 0, 0) := by decide

/-- S-5 (both samples), S-9 (its last sample), S-10 (its last sample, `CAL_OFFSET` = 0). -/
theorem test_sample_at_the_sentinel :
    sampled (.sample 3) State.reset = some (0, 3, 1) ∧
    sampled (.sample 5) (sampler 0 3 1) = some (5, 8, 2) ∧
    sampled (.sample 7) (sampler 0 0 0) = some (4, 7, 1) ∧
    sampled (.sample 40) { sampler 0 0 19 with build := ⟨0, 298, 328⟩ } = some (2, 0, 0) := by decide

/-- R-1. -/
theorem test_reset_variant_a :
    next? (exec .reset { at_ .running 327 33 (.pwm 249 false) with accSum := 4515, accCnt := 15, rptCnt := 3 }) =
      some State.reset := by decide

/-- R-2. -/
theorem test_reset_variant_b :
    next? (exec .reset { at_ .fullspeed 298 31 (.twoStage .full) with accSum := 301, accCnt := 1 }) =
      some (State.resetFor .bTwoStage Config.reference) := by decide

/-- A placed word runs at the next step; with no word waiting the step is IDLE (R66). -/
theorem test_step :
    (next? (step (State.reset.withFetchWord 16 0x92D))).map (fun t => (t.temp, t.pending)) = some (298, []) ∧
    next? (step State.reset) = some State.reset := by decide

/-! ## Driver, ports, script -/

/-- A-1 to A-7. -/
theorem test_outputs :
    (at_ .fullspeed 298 0 (.pwm 0 true)).outputs = ⟨false, false, .pwm true 0, 0b01, 298, 255⟩ ∧
    (at_ .running 298 33 (.pwm 102 false)).outputs = ⟨false, false, .pwm false 102, 0b10, 298, 102⟩ ∧
    (at_ .off 0 33 (.twoStage .stopped)).outputs = ⟨false, false, .twoStage false false, 0b11, 0, 0⟩ ∧
    (Actuator.twoStage .half).pins = .twoStage true false ∧ (Actuator.twoStage .half).statLevel = 50 ∧
    (Actuator.twoStage .full).pins = .twoStage false true ∧ (Actuator.twoStage .full).statLevel = 100 ∧
    (Actuator.twoStage .unused).pins = .twoStage false false ∧ (Actuator.twoStage .unused).statLevel = 0 := by decide

/-- E-10, E-11, and the cycle of program P5: its TICK is the 32nd and sees the seeded Temperature. -/
theorem test_cycles :
    PortInputs.words ⟨false, true, true, 301⟩ = [0x92D, 0x400] ∧ PortInputs.words ⟨true, true, true, 301⟩ = [0xC00] ∧
    (next? (clockCycle ⟨false, true, true, 301⟩ { at_ .fullspeed 0 30 (.pwm 0 true) with rptCnt := 31 })).map
      (fun r => (r.1.temp, r.1.spinCnt, r.1.rptCnt, r.2.convStart, r.2.report)) = some (298, 31, 0, true, true) := by
  decide

/-- R67: case, comment, white space, decimal operand, pseudo-event. -/
theorem test_script_line :
    parseLine ['s', 'a', 'M', 'P', 'L', 'E', ' ', '3', '0', '1', ' ', ';', 'x'] =
      .ok (some (.event ⟨.sample, some 301⟩)) ∧
    parseLine ['P', 'E', 'R', 'I', 'O', 'D', 'S', ' ', '3', '5', ' ', ' ', '3', '0', '1'] =
      .ok (some (.periods 35 301)) ∧
    parseLine [' ', ';', 'T'] = .ok none ∧ parseLine ['T', 'O', 'C', 'K'] = .error .notALine := by decide

/-- R67, R68: a script with an operand out of range is refused; `PERIOD 301` is 12'h400, 12'h92D (program P1). -/
theorem test_assemble :
    assemble [.event ⟨.reset, none⟩, .period 301] = .ok [0xC00, 0x400, 0x92D] ∧
    assemble [.event ⟨.sample, some 1024⟩] = .error .badOperand ∧
    assemble [.batch 1023] = .ok (List.replicate 20 0xBFF) ∧ assemble [.batch 1024] = .error .badOperand := by decide

/-! ## Witnesses: the hypotheses of each obligation, met together, at the boundaries of its clauses -/

theorem test_witness_EncodedEventsDecodeBack : Instr.wellFormed (.sample 1023) = true := by decide

theorem test_witness_DataOfOtherKindsIsIgnored :
    kindBits 0x400 = kindBits 0x7FF ∧ kindBits 0x400 ≠ 0b10#2 := by decide

theorem test_witness_OtherBytesAreRefused : 16 ≤ (16 : Byte).toNat := by decide

theorem test_witness_StepRunsTheDecodedEvent :
    { State.reset with pending := [0x92D] }.pending = 0x92D :: [] ∧ State.reset.pending = [] := by decide

theorem test_witness_PlacedWordRunsNext : 4095 < 4096 ∧ decodeTableWord 16 4095 = some .reset := by decide

theorem test_witness_BuildParametersNeverChange : ∃ t, step State.reset = .next t := ⟨_, rfl⟩

theorem test_witness_QueuedWordsRunInOrder :
    { State.reset with pending := [0x400, 0xC00] }.pending = [0x400] ++ [0xC00] := by decide

theorem test_witness_SampleAccumulatesAndClosesTheBatch :
    (sampler 1020 19437 19).accumulatorInv ∧ (sampler 1020 19437 19).accCnt.toNat + 1 = 20 ∧
    (sampler 298 0 18).accumulatorInv ∧ (sampler 298 0 18).accCnt.toNat + 1 < 20 ∧ (sampler 298 0 18).temp ≠ 0 := by
  decide

theorem test_witness_SampleSeedsAtTheSentinel :
    (sampler 0 54 18).accumulatorInv ∧ (sampler 0 54 18).temp = 0 ∧ (sampler 0 54 18).accCnt.toNat + 1 < 20 := by decide

theorem test_witness_MidBatchSampleIsInvisible :
    (sampler 298 301 1).temp ≠ 0 ∧ (sampler 298 301 1).accCnt.toNat + 1 ≠ 20 := by decide

theorem test_witness_ZeroSeedIsSeededAgain :
    State.reset.accumulatorInv ∧ State.reset.accCnt.toNat + 2 < 20 ∧ State.reset.temp = 0 ∧
    ((State.reset.accSum.toNat + (3 : RawSample).toNat : Nat) : Int) + State.reset.build.cal = 0 := by decide

theorem test_witness_TwentySamplesAreAveraged :
    State.reset.accSum = 0 ∧ State.reset.accCnt = 0 ∧ Instr.reset ∉ (.tick :: List.replicate 20 (.sample 301)) ∧
    (rawSamples (.tick :: List.replicate 20 (.sample 301))).length = 20 := by decide

theorem test_witness_SamplerSeesOnlySamples :
    Instr.reset ∉ [Instr.tick, .sample 301] ∧ Instr.reset ∉ [Instr.sample 301, .idle] ∧
    rawSamples [.tick, .sample 301] = rawSamples [.sample 301, .idle] ∧
    (at_ .off 5 33 (.pwm 0 false)).temp = (thresholds 7 9 (at_ .running 5 33 (.twoStage .half))).temp ∧
    (at_ .off 5 33 (.pwm 0 false)).accSum = (thresholds 7 9 (at_ .running 5 33 (.twoStage .half))).accSum ∧
    (at_ .off 5 33 (.pwm 0 false)).accCnt = (thresholds 7 9 (at_ .running 5 33 (.twoStage .half))).accCnt ∧
    (at_ .off 5 33 (.pwm 0 false)).build.calOffset =
      (thresholds 7 9 (at_ .running 5 33 (.twoStage .half))).build.calOffset := by decide

theorem test_witness_StartupTickForcesFull :
    State.reset.st = .startup ∧ State.reset.act = .pwm 0 false ∧
    (State.resetFor .bTwoStage Config.reference).st = .startup ∧
    (State.resetFor .bTwoStage Config.reference).act = .twoStage .stopped := by decide

theorem test_witness_FullspeedTickCountsTheDwell :
    (at_ .fullspeed 0 31 (.pwm 0 true)).st = .fullspeed ∧ (at_ .fullspeed 0 31 (.pwm 0 true)).spinCnt.toNat + 1 ≤ 32 ∧
    (at_ .fullspeed 0 32 (.pwm 0 true)).spinCnt.toNat + 1 > 32 ∧
    (at_ .fullspeed 0 254 (.pwm 0 true)).spinCnt.toNat + 1 ≤ 255 ∧
    (at_ .fullspeed 0 32 (.pwm 0 true)).act = .pwm 0 true ∧
    (at_ .fullspeed 0 32 (.twoStage .full)).act = .twoStage .full := by decide

theorem test_witness_RunningTickBelowLowTurnsOff :
    (at_ .running 297 33 (.pwm 255 false)).st = .running ∧
    (at_ .running 297 33 (.pwm 255 false)).temp.toInt < (at_ .running 297 33 (.pwm 255 false)).build.low ∧
    (at_ .running 297 33 (.pwm 255 false)).act = .pwm 255 false ∧
    (at_ .running 297 33 (.twoStage .full)).act = .twoStage .full := by decide

theorem test_witness_RunningTickSetsTheDuty :
    (at_ .running 298 33 (.pwm 255 false)).st = .running ∧ (at_ .running 298 33 (.pwm 255 false)).act = .pwm 255 false ∧
    (at_ .running 298 33 (.pwm 255 false)).build.low ≤ (at_ .running 298 33 (.pwm 255 false)).temp.toInt ∧
    (at_ .running 327 33 (.pwm 255 false)).temp.toInt < (at_ .running 327 33 (.pwm 255 false)).build.high ∧
    (at_ .running 328 33 (.pwm 255 false)).build.high ≤ (at_ .running 328 33 (.pwm 255 false)).temp.toInt := by decide

theorem test_witness_RunningTickSetsTheLevel :
    (at_ .running 298 33 (.twoStage .half)).st = .running ∧
    (at_ .running 298 33 (.twoStage .half)).act = .twoStage .half ∧
    (at_ .running 298 33 (.twoStage .half)).build.low ≤ (at_ .running 298 33 (.twoStage .half)).temp.toInt ∧
    (at_ .running 328 33 (.twoStage .half)).build.high ≤ (at_ .running 328 33 (.twoStage .half)).temp.toInt ∧
    (at_ .running 325 33 (.twoStage .half)).temp.toInt < (at_ .running 325 33 (.twoStage .half)).build.high - 2 ∧
    (at_ .running 326 33 (.twoStage .half)).build.high - 2 ≤ (at_ .running 326 33 (.twoStage .half)).temp.toInt ∧
    (at_ .running 327 33 (.twoStage .half)).temp.toInt < (at_ .running 327 33 (.twoStage .half)).build.high := by decide

theorem test_witness_OffTickWatchesTemperature :
    (at_ .off 300 33 (.pwm 0 false)).st = .off ∧
    (at_ .off 300 33 (.pwm 0 false)).temp.toInt ≤ (at_ .off 300 33 (.pwm 0 false)).build.low + 2 ∧
    (at_ .off 301 33 (.pwm 0 false)).temp.toInt > (at_ .off 301 33 (.pwm 0 false)).build.low + 2 := by decide

theorem test_witness_StateGraphHasTheseEdges :
    (∃ t, exec .tick State.reset = .next t) ∧ (∃ t, exec .reset State.reset = .next t) ∧
    ∃ t, exec .idle State.reset = .next t := ⟨⟨_, rfl⟩, ⟨_, rfl⟩, ⟨_, rfl⟩⟩

theorem test_witness_SpinUpDrivesFullForThirtyFourTicks :
    State.reset.st = .startup ∧ Instr.reset ∉ List.replicate 34 Instr.tick ∧
    tickCount [.idle] = 0 ∧ tickCount [.tick] = 1 ∧ tickCount (List.replicate 33 .tick) = 33 ∧
    tickCount (List.replicate 34 .tick) = 34 := by decide

theorem test_witness_EveryThirtySecondTickReports :
    Instr.reset ∉ List.replicate 31 Instr.tick ∧ tickCount (List.replicate 31 .tick) = 31 := by decide

/-- What holds of the one state before a lone TICK holds before every TICK of that run. -/
theorem before_lone_tick {P : State → Prop} {s : State} (h : P s) : BeforeEveryTick P [.tick] s := by
  intro before behind u split run
  obtain rfl : before = [] := by
    cases before with
    | nil => rfl
    | cons i rest =>
      have := congrArg List.length split
      simp at this
  cases run
  exact h

theorem test_witness_OffIsNotLeftInsideTheLowBand :
    Instr.reset ∉ [Instr.tick] ∧ (at_ .off 300 33 (.pwm 0 false)).st = .off ∧
    (at_ .running 297 33 (.pwm 102 false)).st = .running ∧
    BeforeEveryTick (fun u => u.temp.toInt ≤ u.build.low + 2) [.tick] (at_ .off 300 33 (.pwm 0 false)) ∧
    BeforeEveryTick (fun u => u.temp.toInt ≤ u.build.low + 2) [.tick] (at_ .running 297 33 (.pwm 102 false)) :=
  ⟨by decide, rfl, rfl, before_lone_tick (by decide), before_lone_tick (by decide)⟩

theorem test_witness_LevelSticksInTheHighBand :
    Instr.reset ∉ [Instr.tick] ∧ (at_ .running 326 33 (.twoStage .full)).st = .running ∧
    (at_ .running 326 33 (.twoStage .full)).act = .twoStage .full ∧
    BeforeEveryTick (fun u => u.build.low ≤ u.temp.toInt ∧ u.build.high - 2 ≤ u.temp.toInt) [.tick]
      (at_ .running 326 33 (.twoStage .full)) ∧
    BeforeEveryTick (fun u => u.temp.toInt < u.build.high) [.tick] (at_ .running 326 33 (.twoStage .full)) :=
  ⟨by decide, rfl, rfl, before_lone_tick (by decide), before_lone_tick (by decide)⟩

theorem test_witness_OnlyTicksAndResetsMoveTheFan :
    Instr.tick ∉ [Instr.sample 3, .idle] ∧ Instr.reset ∉ [Instr.sample 3, .idle] := by decide

/-- The end state of program P1, variant A, with a TICK waiting. -/
def regulated : State :=
  { at_ .running 298 33 (.pwm 102 false) with accSum := 4515, accCnt := 15, rptCnt := 3, pending := [0x400] }

theorem test_witness_EveryStepKeepsTheInvariants : regulated.Inv ∧ ∃ t, step regulated = .next t :=
  ⟨⟨by decide, by decide, by decide, by simp [regulated, at_, actuatorInv]⟩, _, rfl⟩

/-- Means 297 (below `LOW_TH`), 298, 325 and 326 (the edges of HALF), 327 and 328 (the edges of the band). -/
theorem test_witness_ColdStartRegulatesFromTheFirstBatch :
    ∀ mean ∈ [297, 298, 325, 326, 327, 328],
      (List.replicate 35 (BitVec.ofNat 10 (mean + 3))).length = 35 ∧
      (mean : Int) = (rawTotal ((List.replicate 35 (BitVec.ofNat 10 (mean + 3))).take 20) / 20 : Nat) +
        Config.reference.cal ∧
      (mean : Int) ≠ 0 := by decide

theorem test_witness_ColdStartWithoutSamplesTurnsOff :
    Instr.reset ∉ List.replicate 34 Instr.tick ∧ rawSamples (List.replicate 34 .tick) = [] ∧
    tickCount (List.replicate 34 .tick) = 34 ∧ 0 < Config.reference.low := by decide

theorem test_witness_PwmOutputsShowTheRegisters : (at_ .fullspeed 0 0 (.pwm 0 true)).act = .pwm 0 true := by decide

theorem test_witness_TwoStagePinsAreExclusive :
    (at_ .off 0 33 (.twoStage .stopped)).act = .twoStage .stopped ∧
    (at_ .running 298 33 (.twoStage .half)).act = .twoStage .half ∧
    (at_ .running 328 33 (.twoStage .full)).act = .twoStage .full ∧
    (at_ .running 328 33 (.twoStage .unused)).act = .twoStage .unused := by decide

theorem test_witness_StatusPortShowsStateAndTemperature :
    State.reset.st = .startup ∧ (at_ .fullspeed 0 0 (.pwm 0 true)).st = .fullspeed ∧
    (at_ .running 0 33 (.pwm 0 false)).st = .running ∧ (at_ .off 0 33 (.pwm 0 false)).st = .off := by decide

theorem test_witness_RunningDutyRisesWithTemperature :
    (at_ .running 298 33 (.pwm 255 false)).st = .running ∧ (at_ .running 298 33 (.pwm 255 false)).act = .pwm 255 false ∧
    (at_ .running 298 33 (.pwm 255 false)).build.low ≤ (at_ .running 298 33 (.pwm 255 false)).temp.toInt ∧
    (at_ .running 298 33 (.pwm 255 false)).temp.toInt ≤ (327 : BitVec 16).toInt := by decide

theorem test_witness_ReferenceDutyTable :
    (at_ .running 298 33 (.pwm 255 false)).st = .running ∧
    (at_ .running 298 33 (.pwm 255 false)).build = Config.reference ∧
    (at_ .running 298 33 (.pwm 255 false)).act = .pwm 255 false ∧
    (at_ .running 298 33 (.pwm 255 false)).temp.toInt = 298 + (0 : Nat) ∧
    (at_ .running 327 33 (.pwm 255 false)).temp.toInt = 298 + (29 : Nat) := by decide

theorem test_witness_ResetSetsEveryRegister :
    State.reset.variant = .aDuty ∧ (State.resetFor .bTwoStage Config.reference).variant = .bTwoStage := by decide

theorem test_witness_AssemblerRefusesOutOfRangeSamples : 1023 ≤ 1023 ∧ 1023 < 1024 := by decide

theorem test_witness_PeriodsAssembleToTickThenSample : 1023 ≤ 1023 := by decide

end Sys2Proof.Tests
end

section
/-! SUPPORT. The step: where its event comes from (00_scope.md R14; 30_encoding.md R66; log entry 1). -/

namespace Sys2Proof.Machine

/-! ## The event a step takes -/

/-- When no word waits, the event is IDLE. -/
theorem fetch_of_pending_nil {s : State} (none_waits : s.pending = []) : fetch s = (.idle, s) := by
  simp only [fetch, none_waits]

/-- When words wait, the event is the oldest of them, taken off the queue. -/
theorem fetch_of_pending_cons {s : State} {word : EventWord} {rest : List EventWord}
    (waiting : s.pending = word :: rest) : fetch s = (decodeWord word, s.setPending rest) := by
  simp only [fetch, waiting]

theorem step_of_pending_nil {s : State} (none_waits : s.pending = []) : step s = exec .idle s := by
  rw [step, fetch_of_pending_nil none_waits]

theorem step_of_pending_cons {s : State} {word : EventWord} {rest : List EventWord}
    (waiting : s.pending = word :: rest) : step s = exec (decodeWord word) (s.setPending rest) := by
  rw [step, fetch_of_pending_cons waiting]

/-! ## A placed word -/

@[simp] theorem withFetchWord_pending (s : State) (nbits w : Nat) :
    (s.withFetchWord nbits w).pending = BitVec.ofNat 12 w :: s.pending := rfl

/-- Taking the placed word off the queue again gives back the state it was placed in. -/
@[simp] theorem withFetchWord_setPending (s : State) (nbits w : Nat) :
    (s.withFetchWord nbits w).setPending s.pending = s := rfl

theorem step_withFetchWord (s : State) (nbits w : Nat) :
    step (s.withFetchWord nbits w) = exec (decodeWord (BitVec.ofNat 12 w)) s := by
  rw [step_of_pending_cons (withFetchWord_pending s nbits w), withFetchWord_setPending]

end Sys2Proof.Machine

namespace Sys2Proof

/-! ## Event words given as numbers -/

/-- The two bytes of an event word given as a number below 4096 (20_memory.md R46; log entry 5). -/
theorem wordBytes_ofNat {w : Nat} (small : w < 4096) :
    wordBytes (BitVec.ofNat 12 w) = [BitVec.ofNat 8 w, BitVec.ofNat 8 (w / 256)] := by
  have low : (BitVec.ofNat 12 w).setWidth 8 = BitVec.ofNat 8 w :=
    BitVec.setWidth_ofNat_of_le (by decide) w
  have high : ((BitVec.ofNat 12 w).extractLsb' 8 4).setWidth 8 = BitVec.ofNat 8 (w / 256) := by
    apply BitVec.eq_of_toNat_eq
    simp only [BitVec.toNat_setWidth, BitVec.extractLsb'_toNat, BitVec.toNat_ofNat, Nat.shiftRight_eq_div_pow]
    omega
  rw [wordBytes, low, high]

/-- The decoder of numbered words reads a number below 4096 as the event of its word, whatever `nbits` is. -/
theorem decodeTableWord_eq_decodeWord (nbits : Nat) {w : Nat} (small : w < 4096) :
    decodeTableWord nbits w = some (decodeWord (BitVec.ofNat 12 w)) := by
  have read : decodeBytes [BitVec.ofNat 8 w, BitVec.ofNat 8 (w / 256)] = .ok (decodeWord (BitVec.ofNat 12 w), []) := by
    rw [← wordBytes_ofNat small]
    exact decodeBytes_wordBytes (BitVec.ofNat 12 w) []
  have fits : w < 2 ^ 16 := by omega
  simp only [decodeTableWord, fits, if_true, read]

end Sys2Proof
end

section
/-! PROOF. The statements of 00_scope.md: what a step runs. -/

namespace Sys2Proof.Proofs

open Sys2Proof Sys2Proof.Machine

/-- Settles O7: the two cases of the queue, each by the rule for a step from it. -/
theorem stepRunsTheDecodedEvent : Obligations.StepRunsTheDecodedEvent := by
  constructor
  · intro s word rest waiting
    exact step_of_pending_cons waiting
  · intro s none_waits
    exact step_of_pending_nil none_waits

/-- Settles O8: a placed word heads the queue, and read as a number it is the same event as read as a word. -/
theorem placedWordRunsNext : Obligations.PlacedWordRunsNext := by
  intro s nbits w i small decoded
  have event : decodeWord (BitVec.ofNat 12 w) = i :=
    Option.some.inj ((decodeTableWord_eq_decodeWord nbits small).symm.trans decoded)
  rw [step_withFetchWord, event]

end Sys2Proof.Proofs
end

section
/-! SUPPORT. The state a step leaves (00_scope.md R14), and which operations keep the invariants of 10_state.md R35. -/

namespace Sys2Proof.Machine

/-! ## The state a step leaves -/

/-- Taking the next event off the queue changes nothing else. -/
theorem fetch_snd (s : State) : (fetch s).2 = s.setPending s.pending.tail := by
  cases waiting : s.pending with
  | nil => rw [fetch_of_pending_nil waiting, List.tail_nil, ← waiting]; rfl
  | cons word rest => rw [fetch_of_pending_cons waiting, List.tail_cons]

/-- The only state a step can lead to: the one its event leaves, with that event taken off the queue. -/
theorem step_next_iff {s t : State} :
    step s = .next t ↔ t = (after (fetch s).1 s).setPending s.pending.tail := by
  rw [step, exec_next_iff, fetch_snd, after_setPending]

/-! ## The level registers: R35(f), (g), (h) -/

theorem actuatorInv_atReset (variant : Config.Variant) : actuatorInv .startup (Actuator.atReset variant) := by
  cases variant <;> simp [actuatorInv, Actuator.atReset]

/-- R35 asks the same of the level registers in OFF and in STARTUP. -/
theorem actuatorInv_off_iff_startup (a : Actuator) : actuatorInv .off a ↔ actuatorInv .startup a := by
  cases a <;> simp [actuatorInv]

/-- STARTUP to FULLSPEED (41_controller.md R92): `duty` is not written, so it must have been 0. -/
theorem actuatorInv_forced {a : Actuator} (h : actuatorInv .startup a) : actuatorInv .fullspeed a.forced := by
  cases a with
  | pwm duty force => simp_all [actuatorInv, Actuator.forced]
  | twoStage level => simp [actuatorInv, Actuator.forced]

/-- FULLSPEED to RUNNING (R94): `level` is not written, so it must have been FULL. -/
theorem actuatorInv_regulated {a : Actuator} (h : actuatorInv .fullspeed a) : actuatorInv .running a.regulated := by
  cases a with
  | pwm duty force => simp [actuatorInv, Actuator.regulated]
  | twoStage level => simp_all [actuatorInv, Actuator.regulated]

/-- RUNNING to OFF (R95). -/
theorem actuatorInv_stopped (a : Actuator) : actuatorInv .off a.stopped := by
  cases a <;> simp [actuatorInv, Actuator.stopped]

/-- RUNNING at or above the low threshold (R96, R97): `force_full` is not written, and a level inside the sticky band is
kept. -/
theorem actuatorInv_runningActuator {s : State} (h : actuatorInv .running s.act) :
    actuatorInv .running (runningActuator s) := by
  cases act : s.act with
  | pwm duty force =>
    rw [runningActuator_pwm s act]
    simp_all [actuatorInv]
  | twoStage level =>
    rw [runningActuator_twoStage s act]
    split_ifs <;> simp_all [actuatorInv]

/-! ## The sampler: R35(a), (b) -/

theorem accumulatorInv_afterSample (raw : RawSample) {s : State} (h : s.accumulatorInv) :
    (afterSample raw s).accumulatorInv := by
  obtain ⟨count_le, sum_le⟩ := h
  have raw_le := raw_le raw
  rw [State.accumulatorInv, afterSample_accCnt, afterSample_accSum]
  by_cases closes : s.accCnt.toNat = 19
  · simp [closes]
  · rw [if_neg closes, if_neg closes, zext_toNat (by omega), zext_toNat (by omega)]
    omega

/-- A sum of up to 20 samples, plus the offset, is a value R35(b) allows, and the store of it does not wrap. -/
theorem sext16_add_cal_mem {sum : Nat} (b : Config.Build) (sum_le : sum ≤ 20460) :
    b.cal ≤ (sext 16 (sum + b.cal)).toInt ∧ (sext 16 (sum + b.cal)).toInt ≤ 20460 + b.cal := by
  obtain ⟨cal_ge, cal_le⟩ := cal_range b
  rw [sext16_toInt (by omega) (by omega)]
  omega

/-- Whether the batch value, the seed or nothing is written, the sum behind it is one of at most 20 samples. -/
theorem temperatureInv_afterSample (raw : RawSample) {s : State} (acc : s.accumulatorInv) (temp : s.temperatureInv) :
    (afterSample raw s).temperatureInv := by
  obtain ⟨count_le, sum_le⟩ := acc
  have raw_le := raw_le raw
  rw [State.temperatureInv, afterSample_temp, afterSample_build]
  split_ifs
  · exact .inr (sext16_add_cal_mem s.build (by omega))
  · exact .inr (sext16_add_cal_mem s.build (by omega))
  · exact temp

/-! ## The controller: R35(c) to (h) -/

/-- R35(c) to (h) along every edge of the state graph. -/
theorem controllerArm_keeps_spinInv_actuatorInv {s : State} (spin : s.spinInv) (act : actuatorInv s.st s.act) :
    (controllerArm s).spinInv ∧ actuatorInv (controllerArm s).st (controllerArm s).act := by
  obtain ⟨spin_fullspeed, spin_regulating, -⟩ := spin
  cases st : s.st with
  | startup =>
    rw [st] at act
    rw [controllerArm_startup s st]
    exact ⟨by simp [State.spinInv, armStartup], actuatorInv_forced act⟩
  | fullspeed =>
    rw [st] at act
    have dwell : s.spinCnt.toNat ≤ 32 := spin_fullspeed st
    have counted : (zext 8 (s.spinCnt.toNat + 1)).toNat = s.spinCnt.toNat + 1 := zext_toNat (by omega)
    by_cases stays : s.spinCnt.toNat + 1 ≤ 32
    · rw [controllerArm_fullspeed_stays s st stays]
      exact ⟨by simpa [State.spinInv, st, counted] using stays, by simpa [st] using act⟩
    · rw [controllerArm_fullspeed_leaves s st (by omega)]
      have expired : (zext 8 (s.spinCnt.toNat + 1)).toNat = 33 := by omega
      exact ⟨by simp [State.spinInv, expired], actuatorInv_regulated act⟩
  | running =>
    rw [st] at act
    have spun : s.spinCnt.toNat = 33 := spin_regulating (.inl st)
    by_cases below : s.temp.toInt < s.build.low
    · rw [controllerArm_running_below s st below]
      exact ⟨by simp [State.spinInv, spun], actuatorInv_stopped s.act⟩
    · rw [controllerArm_running_above s st (by omega)]
      exact ⟨by simp [State.spinInv, st, spun], by simpa [st] using actuatorInv_runningActuator act⟩
  | off =>
    rw [st] at act
    have spun : s.spinCnt.toNat = 33 := spin_regulating (.inr st)
    by_cases stays : s.temp.toInt ≤ s.build.low + 2
    · rw [controllerArm_off_stays s st stays]
      exact ⟨by simp [State.spinInv, st, spun], by simpa [st] using act⟩
    · rw [controllerArm_off_leaves s st (by omega)]
      exact ⟨by simp [State.spinInv, spun], (actuatorInv_off_iff_startup s.act).mp act⟩

/-! ## All of R35 -/

/-- R35 does not speak of the waiting events. -/
theorem State.Inv.setPending {s : State} (h : s.Inv) (waiting : List EventWord) : (s.setPending waiting).Inv :=
  ⟨h.accumulator, h.temperature, h.spin, h.actuator⟩

/-- R35 does not speak of the strobes. -/
theorem State.Inv.quiet {s : State} (h : s.Inv) : s.quiet.Inv :=
  ⟨h.accumulator, h.temperature, h.spin, h.actuator⟩

theorem resetFor_inv (variant : Config.Variant) (build : Config.Build) : (State.resetFor variant build).Inv where
  accumulator := by simp [State.accumulatorInv, State.resetFor]
  temperature := .inl rfl
  spin := by simp [State.spinInv, State.resetFor]
  actuator := actuatorInv_atReset variant

theorem afterSample_inv (raw : RawSample) {s : State} (h : s.Inv) : (afterSample raw s).Inv where
  accumulator := accumulatorInv_afterSample raw h.accumulator
  temperature := temperatureInv_afterSample raw h.accumulator h.temperature
  spin := by simpa [State.spinInv] using h.spin
  actuator := by simpa using h.actuator

theorem finishTick_controllerArm_inv {s : State} (h : s.Inv) : (finishTick (controllerArm s)).Inv := by
  obtain ⟨spin, actuator⟩ := controllerArm_keeps_spinInv_actuatorInv h.spin h.actuator
  exact
    { accumulator := by simpa [State.accumulatorInv] using h.accumulator
      temperature := by simpa [State.temperatureInv] using h.temperature
      spin := spin
      actuator := actuator }

/-- Every event keeps the invariants of 10_state.md R35. -/
theorem after_inv (i : Instr) {s : State} (h : s.Inv) : (after i s).Inv := by
  cases i with
  | idle => exact h.quiet
  | tick => exact finishTick_controllerArm_inv h
  | sample raw => exact afterSample_inv raw h
  | reset => exact (resetFor_inv s.variant s.build).setPending s.pending

end Sys2Proof.Machine
end

section
/-! PROOF. The statements of 10_state.md: the build, the invariants and the encodings of the state. -/

namespace Sys2Proof.Proofs

open Sys2Proof Sys2Proof.Machine

/-- Settles O36: the event of the step keeps the invariants, and they do not speak of the queue it was taken from. -/
theorem everyStepKeepsTheInvariants : Obligations.EveryStepKeepsTheInvariants := by
  intro s t inv stepped
  rw [step_next_iff.mp stepped]
  exact (after_inv (fetch s).1 inv).setPending s.pending.tail

/-- Settles O10: no event changes the build or the variant, and neither lies in the queue. -/
theorem buildParametersNeverChange : Obligations.BuildParametersNeverChange := by
  intro s t stepped
  obtain ⟨build, variant, -⟩ := after_keeps (fetch s).1 s
  rw [step_next_iff.mp stepped]
  exact ⟨build, variant⟩

/-- Settles O37: the machine's own reset state is the one of the reference build in variant A. -/
theorem resetStateMeetsTheInvariants : Obligations.ResetStateMeetsTheInvariants :=
  ⟨resetFor_inv .aDuty Config.reference, resetFor_inv⟩

/-- Settles O42: `stat_temp` is the register itself, and `stat_state` the encoding of the one state `st` names. -/
theorem statusPortShowsStateAndTemperature : Obligations.StatusPortShowsStateAndTemperature := by
  intro s
  refine ⟨rfl, ?_, ?_, ?_, ?_⟩ <;> exact fun st => congrArg Phase.bits st

end Sys2Proof.Proofs
end

section
/-! SUPPORT. Steps over a queue of words, a TICK and the accumulator, and bytes that are no word (20_memory.md R46, R52,
R53). -/

namespace Sys2Proof.Machine

/-! ## Steps over a queue -/

/-- A step answers the oldest waiting word with the state its event leaves, that word taken off the queue. -/
theorem step_eq_next_after_of_pending_cons {s : State} {word : EventWord} {rest : List EventWord}
    (waiting : s.pending = word :: rest) : step s = .next ((after (decodeWord word) s).setPending rest) := by
  rw [step_of_pending_cons waiting, exec_eq, after_setPending]

/-- A run of any machine goes on from the state its first step leaves. -/
theorem run_succ_of_step {M : Host.Core} {s t : M.State} (k : Nat) (first : M.step s = .next t) :
    M.run (k + 1) s = M.run k t := by
  simp only [Host.Core.run, first]

/-- As many steps as words at the front of the queue leave the state their events leave, in order, with the words behind
them waiting. -/
theorem core_run_eq_next_afterAll (words rest : List EventWord) {s : State} (waiting : s.pending = words ++ rest) :
    core.run words.length s = .next (afterAll (words.map decodeWord) (s.setPending rest)) := by
  induction words generalizing s with
  | nil =>
    have unchanged : s.setPending rest = s := by rw [← List.nil_append rest, ← waiting]; rfl
    rw [unchanged]
    rfl
  | cons word words ih =>
    calc core.run (words.length + 1) s
      _ = core.run words.length ((after (decodeWord word) s).setPending (words ++ rest)) :=
        run_succ_of_step (M := core) words.length (step_eq_next_after_of_pending_cons waiting)
      _ = .next (afterAll (words.map decodeWord) ((after (decodeWord word) s).setPending rest)) := ih rfl
      _ = .next (afterAll (words.map decodeWord) (after (decodeWord word) (s.setPending rest))) := by
        rw [after_setPending]

/-! ## A TICK and the accumulator -/

/-- A TICK neither sees nor changes the accumulator: its arm reads and writes other registers. -/
theorem after_tick_setAccSum_setAccCnt (s : State) (sum : BitVec 16) (cnt : BitVec 5) :
    after .tick ((s.setAccSum sum).setAccCnt cnt) = ((after .tick s).setAccSum sum).setAccCnt cnt := by
  simp only [after, controllerArm_eq ((s.setAccSum sum).setAccCnt cnt), controllerArm_eq s]
  rfl

end Sys2Proof.Machine

namespace Sys2Proof

/-! ## Bytes that are no word -/

/-- Two bytes whose upper four bits are not 0 are refused, whatever follows. -/
theorem decodeBytes_of_padding {hi : Byte} (padding : 16 ≤ hi.toNat) (lo : Byte) (rest : List Byte) :
    decodeBytes (lo :: hi :: rest) = .error .paddingNotZero := by
  rw [decodeBytes, if_neg (Nat.not_lt.mpr padding)]

end Sys2Proof
end

section
/-! PROOF. The statements of 20_memory.md: the order of events, what a TICK does not see, and the byte form. -/

namespace Sys2Proof.Proofs

open Sys2Proof Sys2Proof.Machine

/-- Settles O11: both sides answer the state the events leave, in order, from the state with only the later words waiting. -/
theorem queuedWordsRunInOrder : Obligations.QueuedWordsRunInOrder := by
  intro words s rest waiting
  rw [core_run_eq_next_afterAll words rest waiting, runEvents_eq]
  rfl

/-- Settles O29: the state the TICK leaves, with the accumulator written after the TICK or before it. -/
theorem ticksDoNotSeeTheAccumulator : Obligations.TicksDoNotSeeTheAccumulator := by
  intro s sum cnt
  refine ⟨after .tick s, exec_eq .tick s, ?_⟩
  exact exec_next_iff.mpr (after_tick_setAccSum_setAccCnt s sum cnt).symm

/-- Settles O6: fewer than two bytes are truncated by definition, and two with a padding bit are refused for it. -/
theorem otherBytesAreRefused : Obligations.OtherBytesAreRefused :=
  ⟨rfl, fun _ => rfl, fun lo _ rest padding => decodeBytes_of_padding padding lo rest⟩

end Sys2Proof.Proofs
end

section
/-! SUPPORT. The four kinds of event word, decoding and encoding as inverses, and the rows of the opcode table
(30_encoding.md R61, R65, R66). -/

namespace Sys2Proof

/-! ## Decoding by kind -/

theorem kindBits_cases (ev : EventWord) :
    kindBits ev = 0b00#2 ∨ kindBits ev = 0b01#2 ∨ kindBits ev = 0b10#2 ∨ kindBits ev = 0b11#2 := by
  generalize kindBits ev = kind
  revert kind
  decide

section byKind
variable {ev : EventWord}

theorem decodeWord_of_kindBits_idle (kind : kindBits ev = 0b00#2) : decodeWord ev = .idle := by
  simp [decodeWord, kind]

theorem decodeWord_of_kindBits_tick (kind : kindBits ev = 0b01#2) : decodeWord ev = .tick := by
  simp [decodeWord, kind]

theorem decodeWord_of_kindBits_sample (kind : kindBits ev = 0b10#2) : decodeWord ev = .sample (dataBits ev) := by
  simp [decodeWord, kind]

theorem decodeWord_of_kindBits_reset (kind : kindBits ev = 0b11#2) : decodeWord ev = .reset := by
  simp [decodeWord, kind]

end byKind

/-! ## Encoding and decoding -/

@[simp] theorem kindBits_encode (i : Instr) : kindBits (encode i) = i.kindCode := kindBits_append ..

@[simp] theorem dataBits_encode (i : Instr) : dataBits (encode i) = i.dataCode := dataBits_append ..

@[simp] theorem decodeWord_encode (i : Instr) : decodeWord (encode i) = i := by
  have kind := kindBits_encode i
  cases i with
  | idle => exact decodeWord_of_kindBits_idle kind
  | tick => exact decodeWord_of_kindBits_tick kind
  | sample raw => rw [decodeWord_of_kindBits_sample kind, dataBits_encode]; rfl
  | reset => exact decodeWord_of_kindBits_reset kind

theorem encode_injective : Function.Injective encode := Function.LeftInverse.injective decodeWord_encode

/-- The canonical spelling of a word (30_encoding.md R65): its kind above its data for a SAMPLE, above 0 for the others. -/
theorem encode_decodeWord (ev : EventWord) :
    encode (decodeWord ev) = kindBits ev ++ (if kindBits ev = 0b10#2 then dataBits ev else 0) := by
  rcases kindBits_cases ev with kind | kind | kind | kind
  · rw [decodeWord_of_kindBits_idle kind, kind]; rfl
  · rw [decodeWord_of_kindBits_tick kind, kind]; rfl
  · rw [decodeWord_of_kindBits_sample kind, kind]; rfl
  · rw [decodeWord_of_kindBits_reset kind, kind]; rfl

/-! ## The opcode table -/

/-- The mask of the table's rows keeps the kind and clears the data. -/
theorem and_kindMask (ev : EventWord) : ev &&& 0xC00 = kindBits ev ++ 0#10 := by
  calc ev &&& 0xC00
    _ = (kindBits ev ++ dataBits ev) &&& (0b11#2 ++ 0#10) := by rw [kindBits_append_dataBits]; rfl
    _ = (kindBits ev &&& BitVec.allOnes 2) ++ (dataBits ev &&& 0#10) := BitVec.and_append
    _ = kindBits ev ++ 0#10 := by rw [BitVec.and_allOnes, BitVec.and_zero]

theorem opcodeTable_mask : ∀ row ∈ opcodeTable, row.mask = 0xC00 := by decide

/-- The rows a word belongs to are those with its kind. -/
theorem opcodeTable_filter_accepts (ev : EventWord) :
    opcodeTable.filter (·.accepts ev) = opcodeTable.filter (kindBits ev ++ 0#10 == ·.matchBits) :=
  List.filter_congr fun row listed => by rw [TableRow.accepts, opcodeTable_mask row listed, and_kindMask]

end Sys2Proof
end

section
/-! SUPPORT. The strobes of one event and the outputs of a clock cycle (30_encoding.md R62, R63). -/

namespace Sys2Proof.Machine

/-- Only a TICK drives a strobe. -/
theorem after_out_of_ne_tick {i : Instr} (other : i ≠ .tick) (s : State) : (after i s).out = ⟨false, false⟩ := by
  cases i with
  | idle => rfl
  | tick => exact absurd rfl other
  | sample raw => exact afterSample_out raw s
  | reset => rfl

theorem after_out_convStart_iff (i : Instr) (s : State) : (after i s).out.convStart = true ↔ i = .tick := by
  constructor
  · intro requested
    by_contra other
    simp [after_out_of_ne_tick other] at requested
  · rintro rfl
    rfl

/-- ORing a step's own strobes into its outputs changes nothing. -/
@[simp] theorem orStrobes_own (s : State) : orStrobes ⟨s.out.convStart, s.out.report⟩ s.outputs = s.outputs := by
  simp [orStrobes, State.outputs]

/-- A cycle whose early steps are no TICKs has the outputs of its last step: the OR adds nothing. -/
theorem runCycleFrom_append_singleton {early : List Instr} (no_tick : .tick ∉ early) (last : Instr) (s : State) :
    runCycleFrom (early ++ [last]) ⟨false, false⟩ s =
      .next (afterAll (early ++ [last]) s, (afterAll (early ++ [last]) s).outputs) := by
  induction early generalizing s with
  | nil => simp [runCycleFrom, exec_eq, andThen, afterAll]
  | cons i early ih =>
    obtain ⟨head, tail⟩ := not_or.mp (List.mem_cons.not.mp no_tick)
    simpa [runCycleFrom, exec_eq, andThen, afterAll, after_out_of_ne_tick (Ne.symm head)] using ih tail (after i s)

/-- The steps of a cycle: a TICK comes last or not at all, and comes exactly when `tick` is 1 and `rst` is 0. -/
theorem PortInputs.events_eq_append (c : PortInputs) :
    ∃ early last, c.events = early ++ [last] ∧ .tick ∉ early ∧ (last = .tick ↔ c.rst = false ∧ c.tick = true) := by
  obtain ⟨rst, tick, valid, data⟩ := c
  cases rst with
  | true => exact ⟨[], .reset, rfl, by simp, by simp⟩
  | false =>
    cases valid <;> cases tick
    · exact ⟨[], .idle, rfl, by simp, by simp⟩
    · exact ⟨[], .tick, rfl, by simp, by simp⟩
    · exact ⟨[], .sample data, rfl, by simp, by simp⟩
    · exact ⟨[.sample data], .tick, rfl, by simp, by simp⟩

end Sys2Proof.Machine
end

section
/-! SUPPORT. The assembler on written events (30_encoding.md R67, R68). -/

namespace Sys2Proof.Machine

/-- Every event is well formed (30_encoding.md R65). -/
theorem wellFormed_written (i : Instr) : i.written.wellFormed = true := by
  cases i with
  | idle => exact Laws.TableRow.idle.1
  | tick => exact Laws.TableRow.tick.1
  | sample raw => exact (Laws.TableRow.sample raw).1
  | reset => exact Laws.TableRow.reset.1

/-- How an event is written stands for that event. -/
@[simp] theorem instrOf?_written (i : Instr) : instrOf? i.written = some i := by
  rw [instrOf?, if_pos (wellFormed_written i)]
  cases i with
  | idle => rfl
  | tick => rfl
  | sample raw => simp [Instr.written]
  | reset => rfl

theorem instrOf?_of_not_wellFormed {w : Written} (bad : w.wellFormed = false) : instrOf? w = none := by
  simp [instrOf?, bad]

/-- Written events are read back as the events, in order. -/
theorem assembleWritten_map_written (events : List Instr) : assembleWritten (events.map Instr.written) = .ok events := by
  induction events with
  | nil => rfl
  | cons i rest ih => simp [assembleWritten, ih]

/-- A script that expands to written events assembles to their words. -/
theorem assemble_of_expand_eq_map_written {lines : List ScriptLine} {events : List Instr}
    (expands : lines.flatMap ScriptLine.expand = events.map Instr.written) :
    assemble lines = .ok (events.map encode) := by
  rw [assemble, expands, assembleWritten_map_written]

/-- A script whose expansion begins with an ill-formed event is refused. -/
theorem assemble_of_expand_eq_cons {lines : List ScriptLine} {w : Written} {rest : List Written}
    (expands : lines.flatMap ScriptLine.expand = w :: rest) (bad : w.wellFormed = false) :
    assemble lines = .error .badOperand := by
  rw [assemble, expands, assembleWritten, instrOf?_of_not_wellFormed bad]

/-! ## SAMPLE operands -/

/-- An operand in [0, 1023] is how the event with that sample is written. -/
theorem written_sample_ofNat {n : Nat} (legal : n ≤ 1023) :
    Instr.written (.sample (BitVec.ofNat 10 n)) = ⟨.sample, some n⟩ := by
  have fits : n % 2 ^ 10 = n := Nat.mod_eq_of_lt (by omega)
  rw [Instr.written, BitVec.toNat_ofNat, fits]

theorem wellFormed_sample_of_gt {n : Nat} (above : 1023 < n) : Written.wellFormed ⟨.sample, some n⟩ = false :=
  decide_eq_false (Nat.not_le.mpr above)

/-- `{2'b10, n}` as a sum (30_encoding.md R69). -/
theorem encode_sample_ofNat {n : Nat} (legal : n ≤ 1023) :
    encode (.sample (BitVec.ofNat 10 n)) = BitVec.ofNat 12 (0x800 + n) := by
  have fits : n < 2 ^ 10 := by omega
  apply BitVec.eq_of_toNat_eq
  simp only [encode, Instr.kindCode, Instr.dataCode, BitVec.toNat_append, BitVec.toNat_ofNat, Nat.mod_eq_of_lt fits]
  rw [← Nat.shiftLeft_add_eq_or_of_lt fits]
  omega

/-! ## Tick periods -/

theorem tickPeriods_map_written {v : Nat} (legal : v ≤ 1023) (n : Nat) :
    (tickPeriods (List.replicate n (BitVec.ofNat 10 v))).map Instr.written =
      (List.replicate n (writtenPeriod v)).flatten := by
  have period : [Instr.tick, .sample (BitVec.ofNat 10 v)].map Instr.written = writtenPeriod v := by
    rw [writtenPeriod, ← written_sample_ofNat legal]; rfl
  rw [tickPeriods, List.map_flatMap, List.flatMap_replicate, period]

end Sys2Proof.Machine
end

section
/-! PROOF. The statements of 30_encoding.md: event words, IDLE, the ports of one cycle, and the script. -/

namespace Sys2Proof.Proofs

open Sys2Proof Sys2Proof.Machine

/-- Settles O1: decoding the word by its kind, and the two bytes of a word are read back as the word. -/
theorem encodedEventsDecodeBack : Obligations.EncodedEventsDecodeBack := by
  intro i _
  refine ⟨decodeWord_encode i, fun rest => ?_⟩
  rw [encodeBytes, decodeBytes_wordBytes, decodeWord_encode]

/-- Settles O51: the expansion is how the tick periods are written, and written events assemble to words that decode to
them. -/
theorem periodsAssembleToTickThenSample : Obligations.PeriodsAssembleToTickThenSample := by
  intro n v legal
  have expands : [ScriptLine.periods n v].flatMap ScriptLine.expand =
      (tickPeriods (List.replicate n (BitVec.ofNat 10 v))).map Instr.written := by
    rw [tickPeriods_map_written legal, List.flatMap_singleton]; rfl
  refine ⟨_, assemble_of_expand_eq_map_written expands, ?_⟩
  simp [Function.comp_def]

/-- Settles O2: the two fields of the canonical spelling. -/
theorem reencodingIsTheCanonicalSpelling : Obligations.ReencodingIsTheCanonicalSpelling := by
  intro ev
  rw [encode_decodeWord]
  exact ⟨kindBits_append .., dataBits_append ..⟩

/-- Settles O3: words of one kind other than SAMPLE have one canonical spelling, and so one decoding. -/
theorem dataOfOtherKindsIsIgnored : Obligations.DataOfOtherKindsIsIgnored := by
  intro ev ev' same other
  apply encode_injective
  rw [encode_decodeWord, encode_decodeWord, ← same, if_neg other, if_neg other]

/-- Settles O4: the rows a word belongs to are those with its kind, one for each of the four. -/
theorem tableRowsPartitionTheWords : Obligations.TableRowsPartitionTheWords := by
  intro ev
  rw [opcodeTable_filter_accepts]
  rcases kindBits_cases ev with kind | kind | kind | kind
  · rw [decodeWord_of_kindBits_idle kind, kind]; rfl
  · rw [decodeWord_of_kindBits_tick kind, kind]; rfl
  · rw [decodeWord_of_kindBits_sample kind, kind]; rfl
  · rw [decodeWord_of_kindBits_reset kind, kind]; rfl

/-- Settles O5: each word is decoded as it stands. -/
theorem workedEncodingsDecode : Obligations.WorkedEncodingsDecode := by
  unfold Obligations.WorkedEncodingsDecode
  decide

/-- Settles O12: the state IDLE leaves is the one it found, made quiet. -/
theorem idleChangesNoRegister : Obligations.IdleChangesNoRegister := fun s => exec_eq .idle s

/-- Settles O48: one clause for each row of R63, where RESET wins whatever the other strobes are. -/
theorem cycleInputsBecomeEvents : Obligations.CycleInputsBecomeEvents := by
  intro data
  exact ⟨fun _ _ => rfl, rfl, rfl, rfl, rfl⟩

/-- Settles O49: only the last step of a cycle can be a TICK, so the steps before it add no strobe to the OR. -/
theorem cycleOutputsAreThoseOfItsLastStep : Obligations.CycleOutputsAreThoseOfItsLastStep := by
  intro c s
  obtain ⟨early, last, events, no_tick, last_tick⟩ := c.events_eq_append
  refine ⟨afterAll c.events s, runEvents_eq c.events s, ?_, ?_⟩
  · rw [clockCycle, events]
    exact runCycleFrom_append_singleton no_tick last s
  · rw [events, afterAll_append, ← last_tick]
    exact after_out_convStart_iff last (afterAll early s)

/-- Settles O50: a legal operand is how a SAMPLE is written; any other, alone or at the head of a batch, is ill formed. -/
theorem assemblerRefusesOutOfRangeSamples : Obligations.AssemblerRefusesOutOfRangeSamples := by
  intro n
  refine ⟨fun legal => ?_, fun above => ?_, fun above => ?_⟩
  · have expands : [ScriptLine.event ⟨.sample, some n⟩].flatMap ScriptLine.expand =
        [Instr.sample (BitVec.ofNat 10 n)].map Instr.written := by
      rw [← written_sample_ofNat legal]; rfl
    rw [assemble_of_expand_eq_map_written expands, ← encode_sample_ofNat legal]
    rfl
  · exact assemble_of_expand_eq_cons rfl (wellFormed_sample_of_gt above)
  · exact assemble_of_expand_eq_cons rfl (wellFormed_sample_of_gt above)

end Sys2Proof.Proofs
end

section
/-! SUPPORT. SAMPLE in the range of R35(a): the sum and the count exactly, the seed and the batch value as integers, and the
run of the samples that complete a batch (40_sampler.md R76 to R78). -/

namespace Sys2Proof.Machine

/-! ## One SAMPLE from an accumulator in range -/

section sample
variable (raw : RawSample) {s : State}

/-- A SAMPLE that does not complete the batch adds to sum and count without wrapping (40_sampler.md R76). -/
theorem afterSample_accumulates (acc : s.accumulatorInv) (short : s.accCnt.toNat < 19) :
    (afterSample raw s).accSum.toNat = s.accSum.toNat + raw.toNat ∧
      (afterSample raw s).accCnt.toNat = s.accCnt.toNat + 1 := by
  obtain ⟨-, sum_le⟩ := acc
  have raw_le := raw_le raw
  rw [afterSample_accSum, afterSample_accCnt, if_neg short.ne, if_neg short.ne]
  exact ⟨zext_toNat (by omega), zext_toNat (by omega)⟩

/-- The 20th SAMPLE empties the accumulator and writes the truncated mean plus the offset, at the sentinel too
(40_sampler.md R78). -/
theorem afterSample_closes (acc : s.accumulatorInv) (full : s.accCnt.toNat = 19) :
    (afterSample raw s).temp.toInt = ((s.accSum.toNat + raw.toNat) / 20 : Nat) + s.build.cal ∧
      (afterSample raw s).accSum = 0 ∧ (afterSample raw s).accCnt = 0 := by
  obtain ⟨-, sum_le⟩ := acc
  have raw_le := raw_le raw
  obtain ⟨cal_ge, cal_le⟩ := cal_range s.build
  rw [afterSample_temp, afterSample_accSum, afterSample_accCnt, if_pos full, if_pos full, if_pos full]
  exact ⟨sext16_toInt (by omega) (by omega), rfl, rfl⟩

/-- The mean of a full batch is at most the largest sample (40_sampler.md R78). -/
theorem batchMean_le (acc : s.accumulatorInv) : (s.accSum.toNat + raw.toNat) / 20 ≤ 1023 := by
  obtain ⟨count_le, sum_le⟩ := acc
  have raw_le := raw_le raw
  omega

/-- A SAMPLE at the sentinel that does not complete the batch writes the sum with it, plus the offset (40_sampler.md R77). -/
theorem afterSample_seeds (acc : s.accumulatorInv) (sentinel : s.temp = 0) (short : s.accCnt.toNat < 19) :
    (afterSample raw s).temp.toInt = (s.accSum.toNat + raw.toNat : Nat) + s.build.cal := by
  obtain ⟨-, sum_le⟩ := acc
  have raw_le := raw_le raw
  obtain ⟨cal_ge, cal_le⟩ := cal_range s.build
  rw [afterSample_temp, if_neg short.ne, if_pos sentinel]
  exact sext16_toInt (by omega) (by omega)

/-- A SAMPLE that neither seeds nor completes a batch leaves Temperature (40_sampler.md R78). -/
theorem afterSample_temp_of_mid_batch (seeded : s.temp ≠ 0) (short : s.accCnt.toNat ≠ 19) :
    (afterSample raw s).temp = s.temp := by
  rw [afterSample_temp, if_neg short, if_neg seeded]

end sample

/-! ## The samples that complete a batch -/

/-- As many samples as the batch still lacks write the truncated mean of all 20, those accumulated before included. -/
theorem afterAll_samples_closes (raws : List RawSample) {s : State} (acc : s.accumulatorInv)
    (completes : s.accCnt.toNat + raws.length = 20) :
    (afterAll (raws.map .sample) s).temp.toInt = ((s.accSum.toNat + rawTotal raws) / 20 : Nat) + s.build.cal ∧
      (afterAll (raws.map .sample) s).accSum = 0 ∧ (afterAll (raws.map .sample) s).accCnt = 0 := by
  induction raws generalizing s with
  | nil =>
    obtain ⟨count_le, -⟩ := acc
    rw [List.length_nil] at completes
    omega
  | cons raw rest ih =>
    rw [List.length_cons] at completes
    have total : rawTotal (raw :: rest) = raw.toNat + rawTotal rest := by simp [rawTotal]
    by_cases short : s.accCnt.toNat < 19
    · obtain ⟨sum, count⟩ := afterSample_accumulates raw acc short
      have closed := ih (accumulatorInv_afterSample raw acc) (by omega)
      rw [sum, afterSample_build, Nat.add_assoc, ← total] at closed
      exact closed
    · have last : rest = [] := List.eq_nil_of_length_eq_zero (by omega)
      subst last
      exact total ▸ afterSample_closes raw acc (by omega)

/-! ## What the sampler sees -/

/-- What SAMPLE reads: the sampler's own registers and the offset (40_sampler.md R80). -/
structure SamplerView where
  temp : BitVec 16
  accSum : BitVec 16
  accCnt : BitVec 5
  calOffset : BitVec 11

/-- The sampler's part of a state. -/
def State.samplerView (s : State) : SamplerView := ⟨s.temp, s.accSum, s.accCnt, s.build.calOffset⟩

theorem samplerView_eq_iff {s t : State} :
    s.samplerView = t.samplerView ↔
      s.temp = t.temp ∧ s.accSum = t.accSum ∧ s.accCnt = t.accCnt ∧ s.build.calOffset = t.build.calOffset := by
  simp only [State.samplerView, SamplerView.mk.injEq]

@[simp] theorem samplerView_quiet (s : State) : s.quiet.samplerView = s.samplerView := rfl

/-- A TICK changes nothing the sampler sees (41_controller.md R101). -/
@[simp] theorem samplerView_finishTick_controllerArm (s : State) :
    (finishTick (controllerArm s)).samplerView = s.samplerView := by
  simp [State.samplerView]

/-- A SAMPLE sees nothing but the sampler's part of the state. -/
theorem afterSample_samplerView_congr (raw : RawSample) {s t : State} (same : s.samplerView = t.samplerView) :
    (afterSample raw s).samplerView = (afterSample raw t).samplerView := by
  obtain ⟨temp, sum, count, offset⟩ := samplerView_eq_iff.mp same
  have cal : s.build.cal = t.build.cal := congrArg BitVec.toInt offset
  rw [samplerView_eq_iff, afterSample_temp, afterSample_temp, afterSample_accSum, afterSample_accSum,
    afterSample_accCnt, afterSample_accCnt, afterSample_build, afterSample_build, temp, sum, count, cal]
  exact ⟨rfl, rfl, rfl, offset⟩

/-- To the sampler, a run without RESET is the run of its samples alone, from any state that looks the same to it. -/
theorem samplerView_afterAll_eq_samples {events : List Instr} (no_reset : .reset ∉ events) {s t : State}
    (same : s.samplerView = t.samplerView) :
    (afterAll events s).samplerView = (afterAll ((rawSamples events).map .sample) t).samplerView := by
  induction events generalizing s t with
  | nil => exact same
  | cons i rest ih =>
    have rest_no_reset : .reset ∉ rest := fun later => no_reset (List.mem_cons_of_mem i later)
    cases i with
    | idle => exact ih rest_no_reset ((samplerView_quiet s).trans same)
    | tick => exact ih rest_no_reset ((samplerView_finishTick_controllerArm s).trans same)
    | sample raw => exact ih rest_no_reset (afterSample_samplerView_congr raw same)
    | reset => exact absurd (List.mem_cons_self ..) no_reset

end Sys2Proof.Machine
end

section
/-! PROOF. The statements of 40_sampler.md: what a SAMPLE writes and leaves, and what a batch of them comes to. -/

namespace Sys2Proof.Proofs

open Sys2Proof Sys2Proof.Machine

/-- Settles O18: the run looks to the sampler like its 20 samples alone, and they complete the batch of an empty
accumulator. -/
theorem twentySamplesAreAveraged : Obligations.TwentySamplesAreAveraged := by
  intro events s sum_zero count_zero no_reset twenty
  have acc : s.accumulatorInv := by simp [State.accumulatorInv, sum_zero, count_zero]
  obtain ⟨mean, sum, count⟩ := afterAll_samples_closes (rawSamples events) acc (by simp [count_zero, twenty])
  have alike := samplerView_afterAll_eq_samples no_reset (rfl : s.samplerView = s.samplerView)
  obtain ⟨temp_eq, sum_eq, count_eq, -⟩ := samplerView_eq_iff.mp alike
  refine ⟨_, runEvents_eq events s, ?_, sum_eq.trans sum, count_eq.trans count⟩
  simpa [temp_eq, sum_zero] using mean

/-- Settles O19: to the sampler, both runs are the run of the same samples from the first state. -/
theorem samplerSeesOnlySamples : Obligations.SamplerSeesOnlySamples := by
  intro events events' s s' no_reset no_reset' raws temp sum count offset
  have same : s'.samplerView = s.samplerView := (samplerView_eq_iff.mpr ⟨temp, sum, count, offset⟩).symm
  have agree : (afterAll events s).samplerView = (afterAll events' s').samplerView := by
    rw [samplerView_afterAll_eq_samples no_reset rfl, samplerView_afterAll_eq_samples no_reset' same, raws]
  obtain ⟨temp', sum', count', -⟩ := samplerView_eq_iff.mp agree
  exact ⟨_, _, runEvents_eq events s, runEvents_eq events' s', temp', sum', count'⟩

/-- Settles O13: the batch value wins over the seed, and before the 20th sample both stores fit. -/
theorem sampleAccumulatesAndClosesTheBatch : Obligations.SampleAccumulatesAndClosesTheBatch := by
  intro raw s acc
  refine ⟨_, exec_eq (.sample raw) s, fun twentieth => ?_, fun earlier => ?_⟩
  · obtain ⟨temp, sum, count⟩ := afterSample_closes raw acc (by omega)
    have mean_le := batchMean_le raw acc
    exact ⟨temp, by rw [after, temp]; omega, by rw [after, temp]; omega, sum, count⟩
  · obtain ⟨sum, count⟩ := afterSample_accumulates raw acc (by omega)
    exact ⟨sum, count, fun seeded => afterSample_temp_of_mid_batch raw seeded (by omega)⟩

/-- Settles O14: the seed is not overwritten, and its value fits. -/
theorem sampleSeedsAtTheSentinel : Obligations.SampleSeedsAtTheSentinel := by
  intro raw s acc sentinel short
  exact ⟨_, exec_eq (.sample raw) s, afterSample_seeds raw acc sentinel (by omega)⟩

/-- Settles O17: the seed of value 0 is the sentinel, so the next sample seeds, from the sum the first one left. -/
theorem zeroSeedIsSeededAgain : Obligations.ZeroSeedIsSeededAgain := by
  intro first second s acc short sentinel zero
  have seed := afterSample_seeds first acc sentinel (by omega)
  have again : (afterSample first s).temp = 0 := (temp_zero_iff _).mpr (seed.trans zero)
  obtain ⟨sum, count⟩ := afterSample_accumulates first acc (by omega)
  have reseed := afterSample_seeds second (accumulatorInv_afterSample first acc) again (by omega)
  rw [sum, afterSample_build] at reseed
  exact ⟨_, _, exec_eq (.sample first) s, again, exec_eq (.sample second) _, reseed⟩

/-- Settles O15: the frame of SAMPLE, field by field; the pins are a function of the level registers. -/
theorem sampleLeavesControllerAndActuator : Obligations.SampleLeavesControllerAndActuator := by
  intro raw s
  exact ⟨_, exec_eq (.sample raw) s, afterSample_st raw s, afterSample_spinCnt raw s, afterSample_rptCnt raw s,
    afterSample_act raw s, afterSample_build raw s, afterSample_pending raw s, afterSample_out raw s,
    congrArg Actuator.pins (afterSample_act raw s)⟩

/-- Settles O16: the level outputs show `st`, `temp` and the level registers, and none of them changes. -/
theorem midBatchSampleIsInvisible : Obligations.MidBatchSampleIsInvisible := by
  intro raw s seeded short
  have temp : (afterSample raw s).temp = s.temp := afterSample_temp_of_mid_batch raw seeded (by omega)
  refine ⟨_, exec_eq (.sample raw) s, ?_⟩
  simp [after, State.outputs, temp]

end Sys2Proof.Proofs
end

section
/-! SUPPORT. What one TICK does: the report counter and its strobe, the duty in the band, the edges of the state graph, and that
the report counter steers nothing (41_controller.md R90 to R105). -/

namespace Sys2Proof.Machine

/-! ## One TICK -/

/-- Storing a counter's successor is adding 1 to the counter. -/
theorem zext_toNat_add_one {n : Nat} (x : BitVec n) : zext n (x.toNat + 1) = x + 1 := by
  apply BitVec.eq_of_toNat_eq
  simp [zext, BitVec.toNat_add]

/-- The next report count is 0 exactly after 31 (R99). -/
theorem rptCnt_wraps_iff (x : BitVec 5) : (x.toNat + 1) % 32 = 0 ↔ x = 31 := by
  have top : (31 : BitVec 5).toNat = 31 := rfl
  rw [← BitVec.toNat_inj, top]
  omega

/-- A TICK is its state arm, then the report counter, its strobe and the conversion request (R90, R99, R100). -/
theorem exec_tick_of_controllerArm {s u : State} (arm : controllerArm s = u) :
    exec .tick s = .next { u with rptCnt := s.rptCnt + 1, out := ⟨true, decide (s.rptCnt = 31)⟩ } := by
  subst arm
  rw [exec_next_iff, after]
  apply State.ext_fields
  case rptCnt => simp [finishTick_rptCnt]
  case out => simp [finishTick_out, rptCnt_wraps_iff]
  all_goals rfl

/-- The report counter after a TICK, and the strobe that shows it back at 0 (R99). -/
theorem after_tick_rptCnt_toNat (s : State) : (after .tick s).rptCnt.toNat = (s.rptCnt.toNat + 1) % 32 := by
  simp [after, finishTick_rptCnt, BitVec.toNat_add]

theorem after_tick_out_report (s : State) : (after .tick s).out.report = decide ((s.rptCnt.toNat + 1) % 32 = 0) := by
  simp [after, finishTick_out]

/-! ## RUNNING at or above the low threshold -/

/-- The duty in the band as an integer: the percent is between 40 and 100, so nothing wraps (42_actuator.md R120, R121). -/
theorem bandDuty_toNat {temp low : Int} (above : low ≤ temp) :
    ((bandDuty temp low).toNat : Int) = min ((temp - low) * 2 + 40) 100 * 255 / 100 := by
  have percent : dutyPct temp low = min ((temp - low) * 2 + 40) 100 := rfl
  have rescale (p : Nat) : duty8 p = p * 255 / 100 := rfl
  rw [bandDuty, rescale, percent, zext_toNat (by omega)]
  omega

theorem bandDuty_eq_ofInt {temp low : Int} (above : low ≤ temp) :
    bandDuty temp low = BitVec.ofInt 8 (min ((temp - low) * 2 + 40) 100 * 255 / 100) := by
  rw [← bandDuty_toNat above, BitVec.ofInt_natCast, BitVec.ofNat_toNat, BitVec.setWidth_eq]

/-! ## Edges of the state graph (R103) -/

theorem controllerArm_fullspeed_st {s : State} (st : s.st = .fullspeed) :
    (controllerArm s).st = if s.spinCnt.toNat + 1 ≤ 32 then .fullspeed else .running := by
  by_cases stays : s.spinCnt.toNat + 1 ≤ 32
  · rw [if_pos stays, controllerArm_fullspeed_stays s st stays, State.setSpinCnt_st, st]
  · rw [if_neg stays, controllerArm_fullspeed_leaves s st (by omega), State.setAct_st, State.setSt_st]

/-- RUNNING leads to OFF below the low threshold and nowhere else, and does not count (R95). -/
theorem controllerArm_running {s : State} (st : s.st = .running) :
    (controllerArm s).st = (if s.temp.toInt < s.build.low then .off else .running) ∧
      (controllerArm s).act = (if s.temp.toInt < s.build.low then s.act.stopped else runningActuator s) ∧
      (controllerArm s).spinCnt = s.spinCnt := by
  by_cases below : s.temp.toInt < s.build.low
  · simp [controllerArm_running_below s st below, below]
  · simp [controllerArm_running_above s st (Int.not_lt.mp below), below, st]

theorem controllerArm_off_st {s : State} (st : s.st = .off) :
    (controllerArm s).st = if s.temp.toInt ≤ s.build.low + 2 then .off else .startup := by
  by_cases stays : s.temp.toInt ≤ s.build.low + 2
  · rw [if_pos stays, controllerArm_off_stays s st stays, st]
  · rw [if_neg stays, controllerArm_off_leaves s st (by omega), State.setSt_st]

/-! ## Hysteresis (R104) -/

/-- At most 2 above the low threshold, RUNNING leads to OFF if anywhere, and OFF nowhere (R95, R98). -/
theorem controllerArm_in_low_band {s : State} (st : s.st = .running ∨ s.st = .off)
    (band : s.temp.toInt ≤ s.build.low + 2) :
    ((controllerArm s).st = .running ∨ (controllerArm s).st = .off) ∧
      (s.st = .off → (controllerArm s).st = .off ∧ (controllerArm s).act = s.act) := by
  rcases st with running | off
  · refine ⟨?_, by simp [running]⟩
    by_cases below : s.temp.toInt < s.build.low
    · simp [controllerArm_running_below s running below]
    · simp [controllerArm_running_above s running (by omega), running]
  · simp [controllerArm_off_stays s off band, off]

/-- RUNNING at or above the sticky band sets FULL or keeps the level (R97). -/
theorem controllerArm_in_sticky_band {s : State} {level : Level} (st : s.st = .running) (act : s.act = .twoStage level)
    (above : s.build.low ≤ s.temp.toInt) (band : s.build.high - 2 ≤ s.temp.toInt) :
    (controllerArm s).st = .running ∧
      (controllerArm s).act = .twoStage (if s.build.high ≤ s.temp.toInt then .full else level) := by
  rw [controllerArm_running_above s st above, State.setAct_st, State.setAct_act, runningActuator_twoStage s act,
    if_neg (Int.not_lt.mpr band)]
  exact ⟨st, rfl⟩

/-! ## What RUNNING decides -/

/-- What variant A's TICK decides in RUNNING, with `force_full` = 0 (R95, R96). -/
theorem controllerArm_running_act_pwm {s : State} {duty : BitVec 8} (st : s.st = .running) (act : s.act = .pwm duty false) :
    (controllerArm s).act = .pwm
      (if s.temp.toInt < s.build.low then 0
        else if s.build.high ≤ s.temp.toInt then 255
        else BitVec.ofInt 8 (min ((s.temp.toInt - s.build.low) * 2 + 40) 100 * 255 / 100)) false := by
  obtain ⟨-, decided, -⟩ := controllerArm_running st
  rw [decided]
  by_cases below : s.temp.toInt < s.build.low
  · rw [if_pos below, if_pos below, act, Actuator.stopped]
  · rw [if_neg below, if_neg below, runningActuator_pwm s act, bandDuty_eq_ofInt (Int.not_lt.mp below)]

/-- What variant B's TICK decides in RUNNING from FULL, which the sticky band keeps (R95, R97). -/
theorem controllerArm_running_act_full {s : State} (st : s.st = .running) (act : s.act = .twoStage .full) :
    (controllerArm s).act = .twoStage
      (if s.temp.toInt < s.build.low then .stopped
        else if s.build.high - 2 ≤ s.temp.toInt then .full else .half) := by
  obtain ⟨-, decided, -⟩ := controllerArm_running st
  rw [decided]
  by_cases below : s.temp.toInt < s.build.low
  · rw [if_pos below, if_pos below, act, Actuator.stopped]
  · rw [if_neg below, if_neg below, runningActuator_twoStage s act]
    by_cases band : s.temp.toInt < s.build.high - 2
    · rw [if_neg (by omega), if_pos band, if_neg (by omega)]
    · rw [if_neg band, ite_self, if_pos (by omega)]

/-! ## What no event reads (R99) -/

/-- Two states that differ in `rpt_cnt` and the strobes of the last step at most. -/
def SameButForReport (s t : State) : Prop := t = (s.setRptCnt t.rptCnt).setOut t.out

/-- No event reads `rpt_cnt` but to count it on, and none reads a strobe. -/
theorem after_sameButForReport (i : Instr) {s t : State} (same : SameButForReport s t) :
    SameButForReport (after i s) (after i t) := by
  rw [SameButForReport] at same
  rw [same]
  cases i with
  | idle => rfl
  | tick =>
    simp only [after, controllerArm_eq s, controllerArm_eq ((s.setRptCnt t.rptCnt).setOut t.out)]
    rfl
  | sample raw =>
    simp only [after, afterSample_eq raw s, afterSample_eq raw ((s.setRptCnt t.rptCnt).setOut t.out)]
    rfl
  | reset => rfl

end Sys2Proof.Machine
end

section
/-! SUPPORT. Runs of events: what IDLE and SAMPLE leave of the controller, the one induction over the TICKs of a run, and what
it gives for the spin-up, the report counter and the hysteresis (41_controller.md R99, R102, R104). -/

namespace Sys2Proof.Machine

/-! ## The registers that TICKs and RESETs alone write -/

/-- The registers of the controller and of the actuator (R90; 42_actuator.md R115). -/
structure ControllerView where
  st : Phase
  spinCnt : BitVec 8
  rptCnt : BitVec 5
  act : Actuator

/-- The controller's part of a state. -/
def State.controllerView (s : State) : ControllerView := ⟨s.st, s.spinCnt, s.rptCnt, s.act⟩

@[simp] theorem controllerView_st (s : State) : s.controllerView.st = s.st := rfl
@[simp] theorem controllerView_spinCnt (s : State) : s.controllerView.spinCnt = s.spinCnt := rfl
@[simp] theorem controllerView_rptCnt (s : State) : s.controllerView.rptCnt = s.rptCnt := rfl
@[simp] theorem controllerView_act (s : State) : s.controllerView.act = s.act := rfl

@[simp] theorem after_tick_st (s : State) : (after .tick s).st = (controllerArm s).st := rfl
@[simp] theorem after_tick_spinCnt (s : State) : (after .tick s).spinCnt = (controllerArm s).spinCnt := rfl
@[simp] theorem after_tick_act (s : State) : (after .tick s).act = (controllerArm s).act := rfl

/-- IDLE and SAMPLE write no register of the controller (40_sampler.md R79). -/
theorem after_controllerView {i : Instr} (no_tick : i ≠ .tick) (no_reset : i ≠ .reset) (s : State) :
    (after i s).controllerView = s.controllerView := by
  cases i with
  | idle => rfl
  | tick => exact absurd rfl no_tick
  | sample raw => simp [State.controllerView, after]
  | reset => exact absurd rfl no_reset

/-- Two conditions on the states before the TICKs are one. -/
theorem BeforeEveryTick.and {C D : State → Prop} {events : List Instr} {s : State} (c : BeforeEveryTick C events s)
    (d : BeforeEveryTick D events s) : BeforeEveryTick (fun u => C u ∧ D u) events s :=
  fun early late u split run => ⟨c early late u split run, d early late u split run⟩

/-- A property of the controller's registers that may depend on how many TICKs there were, and that every TICK before which
`C` holds carries on to one TICK more, holds after a run without RESET: the other events do not move them. -/
theorem afterAll_controllerView {C : State → Prop} {P : Nat → ControllerView → Prop}
    (tick : ∀ n s, C s → P n s.controllerView → P (n + 1) (after .tick s).controllerView)
    {events : List Instr} (no_reset : .reset ∉ events) {n : Nat} {s : State} (before : BeforeEveryTick C events s)
    (start : P n s.controllerView) : P (n + tickCount events) (afterAll events s).controllerView := by
  induction events generalizing n s with
  | nil => exact start
  | cons i rest ih =>
    obtain ⟨head_no_reset, rest_no_reset⟩ := not_or.mp (List.mem_cons.not.mp no_reset)
    obtain ⟨at_head, before_rest⟩ := before.cons
    by_cases is_tick : i = .tick
    · subst is_tick
      have count : n + tickCount (.tick :: rest) = n + 1 + tickCount rest := by
        rw [tickCount, List.count_cons_self, tickCount]; omega
      rw [count]
      exact ih rest_no_reset before_rest (tick n s (at_head rfl) start)
    · have count : tickCount (i :: rest) = tickCount rest := List.count_cons_of_ne is_tick
      rw [count]
      refine ih rest_no_reset before_rest ?_
      rwa [after_controllerView is_tick (Ne.symm head_no_reset)]

/-- The same with no condition on the states before the TICKs. -/
theorem afterAll_controllerView_of_tick {P : Nat → ControllerView → Prop}
    (tick : ∀ n s, P n s.controllerView → P (n + 1) (after .tick s).controllerView)
    {events : List Instr} (no_reset : .reset ∉ events) {n : Nat} {s : State} (start : P n s.controllerView) :
    P (n + tickCount events) (afterAll events s).controllerView :=
  afterAll_controllerView (C := fun _ => True) (fun n s _ => tick n s) no_reset (fun _ _ _ _ _ => trivial) start

/-! ## Spin-up (R102) -/

/-- Where the controller stands after so many TICKs from a STARTUP state with the level registers `start`. -/
structure SpinUpAt (start : Actuator) (ticks : Nat) (v : ControllerView) : Prop where
  waits : ticks = 0 → v.st = .startup ∧ v.act = start
  dwells : 1 ≤ ticks → ticks ≤ 33 → v.st = .fullspeed ∧ v.spinCnt.toNat + 1 = ticks ∧ v.act = start.forced
  regulates : ticks = 34 → v.st = .running ∧ v.spinCnt.toNat = 33 ∧ v.act = start.forced.regulated

theorem spinUpAt_zero {s : State} (st : s.st = .startup) : SpinUpAt s.act 0 s.controllerView :=
  ⟨fun _ => ⟨st, rfl⟩, by omega, by omega⟩

/-- One TICK further: STARTUP at TICK 1, FULLSPEED counting from TICK 2, and its exit at TICK 34 (R92, R93, R94). -/
theorem spinUpAt_succ {start : Actuator} (n : Nat) (s : State) (h : SpinUpAt start n s.controllerView) :
    SpinUpAt start (n + 1) (after .tick s).controllerView := by
  obtain ⟨waits, dwells, -⟩ := h
  refine ⟨by omega, fun _ not_expired => ?_, fun expired => ?_⟩
  · by_cases first : n = 0
    · obtain ⟨st, act⟩ := waits first
      simp_all [controllerArm_startup s st, armStartup]
    · obtain ⟨st, count, act⟩ := dwells (by omega) (by omega)
      rw [controllerView_spinCnt] at count
      have counted : (zext 8 (s.spinCnt.toNat + 1)).toNat = s.spinCnt.toNat + 1 := zext_toNat (by omega)
      simp_all [controllerArm_fullspeed_stays s st (by omega)]
  · obtain ⟨st, count, act⟩ := dwells (by omega) (by omega)
    rw [controllerView_spinCnt] at count
    have counted : (zext 8 (s.spinCnt.toNat + 1)).toNat = 33 := by rw [zext_toNat] <;> omega
    simp_all [controllerArm_fullspeed_leaves s st (by omega)]

theorem afterAll_spinUpAt {events : List Instr} (no_reset : .reset ∉ events) {s : State} (st : s.st = .startup) :
    SpinUpAt s.act (tickCount events) (afterAll events s).controllerView := by
  have reached := afterAll_controllerView_of_tick spinUpAt_succ no_reset (spinUpAt_zero st)
  rwa [Nat.zero_add] at reached

/-- Forced output is full drive (42_actuator.md R117, R118). -/
theorem drivesFull_forced (a : Actuator) : a.forced.drivesFull := by
  cases a with
  | pwm duty force => rfl
  | twoStage level => exact ⟨rfl, rfl⟩

/-- Leaving FULLSPEED does not lower the drive (R94). -/
theorem drivesFull_regulated_forced (a : Actuator) : a.forced.regulated.drivesFull := by
  cases a with
  | pwm duty force => rfl
  | twoStage level => exact ⟨rfl, rfl⟩

/-- From TICK 1 through TICK 34 the output is at maximum (R102). -/
theorem SpinUpAt.drivesFull {start : Actuator} {ticks : Nat} {v : ControllerView} (h : SpinUpAt start ticks v)
    (first : 1 ≤ ticks) (last : ticks ≤ 34) : v.act.drivesFull := by
  by_cases dwelling : ticks ≤ 33
  · obtain ⟨-, -, act⟩ := h.dwells first dwelling
    exact act ▸ drivesFull_forced start
  · obtain ⟨-, -, act⟩ := h.regulates (by omega)
    exact act ▸ drivesFull_regulated_forced start

/-! ## The report counter (R99) -/

theorem afterAll_rptCnt {events : List Instr} (no_reset : .reset ∉ events) (s : State) :
    (afterAll events s).rptCnt.toNat = (s.rptCnt.toNat + tickCount events) % 32 := by
  refine afterAll_controllerView_of_tick (P := fun n v => v.rptCnt.toNat = n % 32) ?_ no_reset ?_
  · intro n u count
    rw [controllerView_rptCnt] at count
    rw [controllerView_rptCnt, after_tick_rptCnt_toNat, count]
    omega
  · exact (Nat.mod_eq_of_lt s.rptCnt.isLt).symm

/-- From reset the counter is the number of TICKs modulo 32. -/
theorem afterAll_resetFor_rptCnt {events : List Instr} (no_reset : .reset ∉ events) (variant : Config.Variant)
    (build : Config.Build) : (afterAll events (State.resetFor variant build)).rptCnt.toNat = tickCount events % 32 := by
  have from_zero : (State.resetFor variant build).rptCnt.toNat = 0 := rfl
  rw [afterAll_rptCnt no_reset, from_zero, Nat.zero_add]

/-- A TICK after a run reports exactly when it brings the count of all TICKs to a multiple of 32. -/
theorem after_tick_afterAll_out_report {events : List Instr} (no_reset : .reset ∉ events) (s : State) :
    (after .tick (afterAll events s)).out.report = decide (32 ∣ s.rptCnt.toNat + tickCount events + 1) := by
  rw [after_tick_out_report, afterAll_rptCnt no_reset s, decide_eq_decide]
  omega

theorem afterAll_sameButForReport (events : List Instr) {s t : State} (same : SameButForReport s t) :
    SameButForReport (afterAll events s) (afterAll events t) := by
  induction events generalizing s t with
  | nil => exact same
  | cons i rest ih => exact ih (after_sameButForReport i same)

/-! ## Hysteresis (R104) -/

/-- A controller regulating since `start`: in RUNNING or OFF, and in OFF with its level registers unchanged if it was there. -/
def RegulatesSince (start v : ControllerView) : Prop :=
  (v.st = .running ∨ v.st = .off) ∧ (start.st = .off → v.st = .off ∧ v.act = start.act)

theorem regulatesSince_tick {start : ControllerView} {s : State} (band : s.temp.toInt ≤ s.build.low + 2)
    (h : RegulatesSince start s.controllerView) : RegulatesSince start (after .tick s).controllerView := by
  obtain ⟨regulating, sticks⟩ := h
  obtain ⟨stays, off_stays⟩ := controllerArm_in_low_band regulating band
  refine ⟨stays, fun start_off => ?_⟩
  obtain ⟨off, act⟩ := sticks start_off
  obtain ⟨off', act'⟩ := off_stays off
  exact ⟨off', act'.trans act⟩

/-- A RUNNING controller of variant B whose level is one of those `allowed`. -/
def RunsAtLevel (allowed : Level → Prop) (v : ControllerView) : Prop :=
  v.st = .running ∧ ∃ level, v.act = .twoStage level ∧ allowed level

/-- At or above the sticky band a TICK keeps the level or sets FULL, so it stays allowed where FULL is, or where FULL is not
set. -/
theorem runsAtLevel_tick {allowed : Level → Prop} {s : State} (above : s.build.low ≤ s.temp.toInt)
    (band : s.build.high - 2 ≤ s.temp.toInt) (full : s.build.high ≤ s.temp.toInt → allowed .full)
    (h : RunsAtLevel allowed s.controllerView) : RunsAtLevel allowed (after .tick s).controllerView := by
  obtain ⟨running, level, act, level_allowed⟩ := h
  obtain ⟨running', act'⟩ := controllerArm_in_sticky_band running act above band
  refine ⟨running', _, act', ?_⟩
  split_ifs with high
  · exact full high
  · exact level_allowed

end Sys2Proof.Machine
end

section
/-! SUPPORT. Runs of tick periods: Temperature from the first batch (41_controller.md R102;
70_reset_and_hazards.md R160, R161). -/

namespace Sys2Proof.Machine

theorem afterAll_build (events : List Instr) (s : State) : (afterAll events s).build = s.build := by
  refine afterAll_keeps (P := fun t => t.build = s.build) (fun i _ t build => ?_) rfl
  obtain ⟨kept, -⟩ := after_keeps i t
  exact kept.trans build

@[simp] theorem tickPeriods_cons (raw : RawSample) (raws : List RawSample) :
    tickPeriods (raw :: raws) = .tick :: .sample raw :: tickPeriods raws := rfl

theorem tickPeriods_append (raws raws' : List RawSample) :
    tickPeriods (raws ++ raws') = tickPeriods raws ++ tickPeriods raws' := List.flatMap_append

theorem rawSamples_tickPeriods (raws : List RawSample) : rawSamples (tickPeriods raws) = raws := by
  induction raws with
  | nil => rfl
  | cons raw rest ih => rw [tickPeriods_cons, rawSamples, rawSamples, ih]

theorem tickCount_tickPeriods (raws : List RawSample) : tickCount (tickPeriods raws) = raws.length := by
  induction raws with
  | nil => rfl
  | cons raw rest ih => simpa [tickCount] using ih

theorem reset_not_mem_tickPeriods (raws : List RawSample) : .reset ∉ tickPeriods raws := by
  simp [tickPeriods]

theorem accumulatorInv_of_empty {s : State} (sum : s.accSum = 0) (count : s.accCnt = 0) : s.accumulatorInv := by
  simp [State.accumulatorInv, sum, count]

/-- Samples that complete no batch leave a Temperature that is not at the sentinel, and are counted. -/
theorem afterAll_samples_of_mid_batch (raws : List RawSample) {s : State} (acc : s.accumulatorInv) (seeded : s.temp ≠ 0)
    (short : s.accCnt.toNat + raws.length < 20) :
    (afterAll (raws.map .sample) s).temp = s.temp ∧
      (afterAll (raws.map .sample) s).accCnt.toNat = s.accCnt.toNat + raws.length := by
  induction raws generalizing s with
  | nil => exact ⟨rfl, rfl⟩
  | cons raw rest ih =>
    rw [List.length_cons] at short ⊢
    have temp : (afterSample raw s).temp = s.temp := afterSample_temp_of_mid_batch raw seeded (by omega)
    obtain ⟨-, count⟩ := afterSample_accumulates raw acc (by omega)
    obtain ⟨temp', count'⟩ := ih (accumulatorInv_afterSample raw acc) (temp ▸ seeded) (by omega)
    exact ⟨temp'.trans temp, by rw [List.map_cons, afterAll, after, count', count]; omega⟩

/-- From an empty accumulator until the second batch is complete, Temperature is the first batch's, if that is not at the
sentinel. -/
theorem afterAll_of_first_batch {events : List Instr} (no_reset : .reset ∉ events) {s : State} (sum_zero : s.accSum = 0)
    (count_zero : s.accCnt = 0) (complete : 20 ≤ (rawSamples events).length) (short : (rawSamples events).length < 40)
    {mean : Int} (mean_eq : mean = (rawTotal ((rawSamples events).take 20) / 20 : Nat) + s.build.cal)
    (nonzero : mean ≠ 0) :
    (afterAll events s).temp.toInt = mean ∧
      (afterAll events s).accCnt.toNat = (rawSamples events).length - 20 := by
  have closed := afterAll_samples_closes ((rawSamples events).take 20) (accumulatorInv_of_empty sum_zero count_zero)
    (by simp [count_zero, complete])
  have empty : s.accSum.toNat = 0 := congrArg BitVec.toNat sum_zero
  rw [empty, Nat.zero_add, ← mean_eq] at closed
  obtain ⟨temp, sum, count⟩ := closed
  have seeded : (afterAll (((rawSamples events).take 20).map .sample) s).temp ≠ 0 := fun sentinel =>
    nonzero (temp.symm.trans ((temp_zero_iff _).mp sentinel))
  have restarted : (afterAll (((rawSamples events).take 20).map .sample) s).accCnt.toNat = 0 := congrArg BitVec.toNat count
  have later := afterAll_samples_of_mid_batch ((rawSamples events).drop 20) (accumulatorInv_of_empty sum count) seeded
    (by rw [restarted, List.length_drop]; omega)
  rw [← afterAll_append, ← List.map_append, List.take_append_drop, restarted, Nat.zero_add, List.length_drop] at later
  obtain ⟨temp', count'⟩ := later
  have alike := samplerView_afterAll_eq_samples no_reset (rfl : s.samplerView = s.samplerView)
  obtain ⟨temp_eq, -, count_eq, -⟩ := samplerView_eq_iff.mp alike
  exact ⟨by rw [temp_eq, temp', temp], by rw [count_eq, count']⟩

/-- The same over tick periods from reset. -/
theorem afterAll_tickPeriods_of_first_batch (variant : Config.Variant) (build : Config.Build) {raws : List RawSample}
    (complete : 20 ≤ raws.length) (short : raws.length < 40) {mean : Int}
    (mean_eq : mean = (rawTotal (raws.take 20) / 20 : Nat) + build.cal) (nonzero : mean ≠ 0) :
    (afterAll (tickPeriods raws) (State.resetFor variant build)).temp.toInt = mean ∧
      (afterAll (tickPeriods raws) (State.resetFor variant build)).accCnt.toNat = raws.length - 20 := by
  have batch := afterAll_of_first_batch (reset_not_mem_tickPeriods raws) (s := State.resetFor variant build) rfl rfl
    (mean := mean)
  rw [rawSamples_tickPeriods] at batch
  exact batch complete short mean_eq nonzero

/-- The controller is about to decide for the first time: spun up, with `mean` to decide from (R102). -/
def State.AtFirstDecision (s : State) (variant : Config.Variant) (build : Config.Build) (mean : Int) : Prop :=
  s.st = .running ∧ s.spinCnt = 33 ∧ s.act = (Actuator.atReset variant).forced.regulated ∧ s.build = build ∧
    s.temp.toInt = mean

theorem afterAll_tickPeriods_atFirstDecision (variant : Config.Variant) (build : Config.Build) {raws : List RawSample}
    (length : raws.length = 34) {mean : Int} (mean_eq : mean = (rawTotal (raws.take 20) / 20 : Nat) + build.cal)
    (nonzero : mean ≠ 0) :
    (afterAll (tickPeriods raws) (State.resetFor variant build)).AtFirstDecision variant build mean := by
  have ticks : tickCount (tickPeriods raws) = 34 := (tickCount_tickPeriods raws).trans length
  have startup : (State.resetFor variant build).st = .startup := rfl
  obtain ⟨running, spin, act⟩ := (afterAll_spinUpAt (reset_not_mem_tickPeriods raws) startup).regulates ticks
  obtain ⟨temp, -⟩ := afterAll_tickPeriods_of_first_batch variant build (by omega) (by omega) mean_eq nonzero
  exact ⟨running, BitVec.eq_of_toNat_eq spin, act, afterAll_build _ _, temp⟩

/-- The TICK of the 35th period makes the first decision, and the SAMPLE that ends the period does not move the controller. -/
theorem exists_first_decision (variant : Config.Variant) (build : Config.Build) {raws : List RawSample}
    (length : raws.length = 35) {mean : Int} (mean_eq : mean = (rawTotal (raws.take 20) / 20 : Nat) + build.cal)
    (nonzero : mean ≠ 0) :
    ∃ u : State, u.AtFirstDecision variant build mean ∧
      (afterAll (tickPeriods raws) (State.resetFor variant build)).controllerView = (after .tick u).controllerView := by
  obtain rfl | ⟨early, last, rfl⟩ := raws.eq_nil_or_concat'
  · simp at length
  rw [List.length_append, List.length_singleton] at length
  rw [List.take_append_of_le_length (by omega)] at mean_eq
  refine ⟨_, afterAll_tickPeriods_atFirstDecision variant build (by omega) mean_eq nonzero, ?_⟩
  rw [tickPeriods_append, afterAll_append]
  exact after_controllerView (i := .sample last) nofun nofun _

end Sys2Proof.Machine
end

section
/-! PROOF. The statements of 41_controller.md: what a TICK does in each state, and what runs of events come to. -/

namespace Sys2Proof.Proofs

open Sys2Proof Sys2Proof.Machine

/-- Settles O30: the place in the spin-up after so many TICKs, carried along the run. -/
theorem spinUpDrivesFullForThirtyFourTicks : Obligations.SpinUpDrivesFullForThirtyFourTicks := by
  intro events s st no_reset
  have reached := afterAll_spinUpAt no_reset st
  refine ⟨_, runEvents_eq events s, reached.waits, fun first last => ?_, fun expired => ?_, reached.drivesFull⟩
  · obtain ⟨st, count, -⟩ := reached.dwells first last
    exact ⟨st, count⟩
  · obtain ⟨st, count, -⟩ := reached.regulates expired
    exact ⟨st, count⟩

/-- Settles O31: the counter counts TICKs modulo 32, from 0 after reset. -/
theorem everyThirtySecondTickReports : Obligations.EveryThirtySecondTickReports := by
  constructor
  · intro events s no_reset
    exact ⟨_, _, runEvents_eq events s, afterAll_rptCnt no_reset s, exec_eq .tick _,
      after_tick_afterAll_out_report no_reset s⟩
  · intro variant build events no_reset
    have from_zero : (State.resetFor variant build).rptCnt.toNat = 0 := rfl
    have report := after_tick_afterAll_out_report no_reset (State.resetFor variant build)
    rw [from_zero, Nat.zero_add] at report
    refine ⟨_, runEvents_eq _ _, ?_, ?_⟩ <;> rw [afterAll_append, afterAll, afterAll]
    · exact report
    · rw [after_tick_rptCnt_toNat, afterAll_resetFor_rptCnt no_reset]
      omega

/-- Settles O32: inside the low band, every TICK keeps RUNNING or OFF, and keeps OFF with its level registers. -/
theorem offIsNotLeftInsideTheLowBand : Obligations.OffIsNotLeftInsideTheLowBand := by
  intro events s no_reset st before
  exact ⟨_, runEvents_eq events s, afterAll_controllerView (n := 0) (P := fun _ => RegulatesSince s.controllerView)
    (fun _ _ band => regulatesSince_tick band) no_reset before ⟨st, fun off => ⟨off, rfl⟩⟩⟩

/-- Settles O33: at or above the band every TICK keeps FULL, and below the high threshold every TICK keeps any level. -/
theorem levelSticksInTheHighBand : Obligations.LevelSticksInTheHighBand := by
  intro events s level no_reset st act before
  obtain ⟨running, kept, kept_act, full_kept⟩ := afterAll_controllerView (n := 0)
    (P := fun _ => RunsAtLevel fun kept => level = .full → kept = .full)
    (fun _ _ ⟨above, band⟩ => runsAtLevel_tick above band fun _ _ => rfl) no_reset before ⟨st, level, act, id⟩
  refine ⟨_, runEvents_eq events s, running, fun full => full_kept full ▸ kept_act, fun below => ?_⟩
  obtain ⟨-, _, level_act, rfl⟩ := afterAll_controllerView (n := 0) (P := fun _ => RunsAtLevel (· = level))
    (fun _ _ ⟨⟨above, band⟩, not_high⟩ => runsAtLevel_tick above band fun high => absurd high (Int.not_le.mpr not_high))
    no_reset (before.and below) ⟨st, level, act, rfl⟩
  exact level_act

/-- Settles O34: the relation holds at the start and every event keeps it. -/
theorem reportCounterSteersNothing : Obligations.ReportCounterSteersNothing := by
  intro events s count strobes
  have same : SameButForReport s { s with rptCnt := count, out := strobes } := rfl
  exact ⟨_, _, runEvents_eq events s, runEvents_eq events _, afterAll_sameButForReport events same⟩

/-- Settles O25: at or above the high threshold or in the band, with the duty of the band as an integer. -/
theorem runningTickSetsTheDuty : Obligations.RunningTickSetsTheDuty := by
  intro s duty force st act above
  have arm := controllerArm_running_above s st above
  rw [runningActuator_pwm s act] at arm
  refine ⟨_, exec_tick_of_controllerArm arm, fun high => if_pos high, fun band => ?_⟩
  rw [if_neg (Int.not_le.mpr band)]
  exact bandDuty_toNat above

/-- Settles O38: 34 periods spin up and complete the first batch, and the TICK of the 35th decides from its mean. -/
theorem coldStartRegulatesFromTheFirstBatch : Obligations.ColdStartRegulatesFromTheFirstBatch := by
  intro variant build raws mean length mean_eq nonzero
  obtain ⟨temp, count⟩ := afterAll_tickPeriods_of_first_batch variant build (by omega) (by omega) mean_eq nonzero
  have report := afterAll_resetFor_rptCnt (reset_not_mem_tickPeriods raws) variant build
  rw [tickCount_tickPeriods, length] at report
  rw [length] at count
  obtain ⟨u, ⟨running, spin, act, rfl, rfl⟩, view⟩ := exists_first_decision variant build length mean_eq nonzero
  obtain ⟨decided, -, dwelt⟩ := controllerArm_running running
  refine ⟨_, runEvents_eq _ _, temp, BitVec.eq_of_toNat_eq count, ?_, BitVec.eq_of_toNat_eq report, ?_, ?_, ?_⟩
  · exact (congrArg ControllerView.spinCnt view).trans (dwelt.trans spin)
  · exact (congrArg ControllerView.st view).trans decided
  · rintro rfl
    exact (congrArg ControllerView.act view).trans (controllerArm_running_act_pwm running act)
  · rintro rfl
    exact (congrArg ControllerView.act view).trans (controllerArm_running_act_full running act)

/-- Settles O20: the report counter and the strobes of a TICK, and the frame of its arm. -/
theorem everyTickCompletes : Obligations.EveryTickCompletes := by
  intro s
  have count := after_tick_rptCnt_toNat s
  refine ⟨_, exec_eq .tick s, count, ?_, rfl, controllerArm_temp s, controllerArm_accSum s, controllerArm_accCnt s,
    controllerArm_build s, controllerArm_pending s⟩
  rw [after_tick_out_report, decide_eq_decide, ← count, ← BitVec.toNat_inj]
  rfl

/-- Settles O21: a TICK requests a conversion, and every other event drives both strobes 0. -/
theorem onlyTicksStrobe : Obligations.OnlyTicksStrobe := by
  intro i s
  refine ⟨_, exec_eq i s, ?_, fun reported => ?_⟩
  · rw [Bool.eq_iff_iff, decide_eq_true_iff]
    exact after_out_convStart_iff i s
  · by_contra other
    simp [after_out_of_ne_tick other] at reported

/-- Settles O22: the STARTUP arm, in each variant. -/
theorem startupTickForcesFull : Obligations.StartupTickForcesFull := by
  intro s st
  have arm := controllerArm_startup s st
  rw [armStartup] at arm
  exact ⟨fun _ _ act => exec_tick_of_controllerArm (act ▸ arm), fun _ act => exec_tick_of_controllerArm (act ▸ arm)⟩

/-- Settles O23: the FULLSPEED arm below and at its limit. -/
theorem fullspeedTickCountsTheDwell : Obligations.FullspeedTickCountsTheDwell := by
  intro s st
  refine ⟨fun stays => ?_, fun leaves _ => ?_⟩
  · have arm := controllerArm_fullspeed_stays s st stays
    rw [zext_toNat_add_one] at arm
    exact exec_tick_of_controllerArm arm
  · have arm := controllerArm_fullspeed_leaves s st leaves
    rw [zext_toNat_add_one] at arm
    constructor
    · intro duty force act
      rw [act] at arm
      exact exec_tick_of_controllerArm arm
    · intro level act
      rw [act, Actuator.regulated, ← act] at arm
      exact exec_tick_of_controllerArm arm

/-- Settles O24: the RUNNING arm below the low threshold, in each variant. -/
theorem runningTickBelowLowTurnsOff : Obligations.RunningTickBelowLowTurnsOff := by
  intro s st below
  have arm := controllerArm_running_below s st below
  exact ⟨fun _ _ act => exec_tick_of_controllerArm (act ▸ arm), fun _ act => exec_tick_of_controllerArm (act ▸ arm)⟩

/-- Settles O26: FULL, HALF or the level as it was, by the two comparisons of R97. -/
theorem runningTickSetsTheLevel : Obligations.RunningTickSetsTheLevel := by
  intro s level st act above
  have arm := controllerArm_running_above s st above
  rw [runningActuator_twoStage s act] at arm
  refine ⟨_, exec_tick_of_controllerArm arm, fun high => if_pos high, fun not_high low => ?_, fun not_high band => ?_⟩
  · rw [if_neg (Int.not_le.mpr not_high), if_pos low]
  · rw [if_neg (Int.not_le.mpr not_high), if_neg (Int.not_lt.mpr band)]

/-- Settles O27: the OFF arm on each side of the restart threshold. -/
theorem offTickWatchesTemperature : Obligations.OffTickWatchesTemperature := by
  intro s st
  exact ⟨fun restarts => exec_tick_of_controllerArm (controllerArm_off_leaves s st restarts),
    fun stays => exec_tick_of_controllerArm (controllerArm_off_stays s st stays)⟩

/-- Settles O28: a RESET goes to STARTUP, a TICK along the edge of its arm, and no other event moves the controller. -/
theorem stateGraphHasTheseEdges : Obligations.StateGraphHasTheseEdges := by
  intro i s t next
  obtain rfl := exec_next_iff.mp next
  refine ⟨?_, fun no_reset no_tick => ?_, ?_⟩
  · rintro rfl
    exact State.resetBlock_st s
  · exact congrArg ControllerView.st (after_controllerView no_tick no_reset s)
  · rintro rfl
    refine ⟨fun startup => ?_, controllerArm_fullspeed_st, fun running => ?_, controllerArm_off_st⟩
    · rw [after_tick_st, controllerArm_startup s startup, armStartup, State.setSt_st]
    · obtain ⟨st, -⟩ := controllerArm_running running
      simp only [after_tick_st, st, ← Int.not_le, ite_not]

end Sys2Proof.Proofs
end

section
/-! SUPPORT. The duty of RUNNING as an integer, its floor and its monotonicity, the rescale of the percent, and the pins of
variant B (42_actuator.md R118 to R124). -/

namespace Sys2Proof.Machine

/-! ## The rescale of the percent (R121) -/

theorem duty8_mono : Monotone duty8 := fun _ _ le => Nat.div_le_div_right (Nat.mul_le_mul_right _ le)

/-- Full percent is full duty (R123). -/
theorem duty8_hundred : duty8 100 = 255 := rfl

/-! ## The duty of RUNNING (R96, R120, R121) -/

/-- Variant A's TICK in RUNNING at or above the low threshold writes the duty of R96 and keeps `force_full`. -/
theorem after_tick_act_pwm {s : State} {duty : BitVec 8} {force : Bool} (st : s.st = .running)
    (act : s.act = .pwm duty force) (above : s.build.low ≤ s.temp.toInt) :
    (after .tick s).act = .pwm (runningDuty s) force := by
  rw [after_tick_act, controllerArm_running_above s st above, State.setAct_act, runningActuator, act]

/-- Full duty at or above the high threshold, the rescaled percent in the band. -/
theorem runningDuty_toNat {s : State} (above : s.build.low ≤ s.temp.toInt) :
    ((runningDuty s).toNat : Int) =
      if s.build.high ≤ s.temp.toInt then 255
      else min ((s.temp.toInt - s.build.low) * 2 + 40) 100 * 255 / 100 := by
  by_cases high : s.build.high ≤ s.temp.toInt
  · simp [runningDuty, State.atOrAboveHigh, State.temperature, high]
  · simpa [runningDuty, State.atOrAboveHigh, State.temperature, high] using bandDuty_toNat above

/-- The duty at 40 percent is the lowest of RUNNING. -/
theorem runningDuty_ge {s : State} (above : s.build.low ≤ s.temp.toInt) : 102 ≤ (runningDuty s).toNat := by
  have duty := runningDuty_toNat above
  split_ifs at duty <;> omega

/-- Of two states of one build, the warmer one's duty is no lower. -/
theorem runningDuty_mono {s t : State} (build : t.build = s.build) (above : s.build.low ≤ s.temp.toInt)
    (warmer : s.temp.toInt ≤ t.temp.toInt) : (runningDuty s).toNat ≤ (runningDuty t).toNat := by
  have cool := runningDuty_toNat above
  have warm := runningDuty_toNat (s := t) (by rw [build]; exact above.trans warmer)
  rw [build] at warm
  split_ifs at cool warm <;> omega

/-! ## The reference configuration (R122) -/

/-- The duty `k` above the low threshold, where the percent is below 100. -/
def referenceDuty (k : Nat) : Nat := (2 * k + 40) * 255 / 100

theorem runningDuty_reference {s : State} {k : Nat} (build : s.build = Config.reference) (in_band : k < 30)
    (temp : s.temp.toInt = 298 + k) : (runningDuty s).toNat = referenceDuty k := by
  have low : s.build.low = 298 := build ▸ rfl
  have high : s.build.high = 328 := build ▸ rfl
  have duty := runningDuty_toNat (s := s) (by omega)
  rw [if_neg (by omega), low] at duty
  rw [referenceDuty]
  omega

/-! ## The pins of variant B (R118, R119) -/

theorem not_pinHalf_and_pinFull (level : Level) : ¬ (level.pinHalf = true ∧ level.pinFull = true) := by
  cases level <;> decide

end Sys2Proof.Machine
end

section
/-! PROOF. The statements of 42_actuator.md: what moves the actuator, the duty of RUNNING, and what the outputs show. -/

namespace Sys2Proof.Proofs

open Sys2Proof Sys2Proof.Machine

/-- Settles O35: every event of such a list leaves the controller's registers, and the pins and the status level are functions
of the level registers. -/
theorem onlyTicksAndResetsMoveTheFan : Obligations.OnlyTicksAndResetsMoveTheFan := by
  intro events s no_tick no_reset
  have unmoved : (afterAll events s).controllerView = s.controllerView := by
    refine afterAll_keeps (P := fun t => t.controllerView = s.controllerView) (fun i mem t same => ?_) rfl
    exact (after_controllerView (ne_of_mem_of_not_mem mem no_tick) (ne_of_mem_of_not_mem mem no_reset) t).trans same
  have act : (afterAll events s).act = s.act := congrArg ControllerView.act unmoved
  exact ⟨_, runEvents_eq events s, congrArg ControllerView.st unmoved, congrArg ControllerView.spinCnt unmoved,
    congrArg ControllerView.rptCnt unmoved, act, congrArg Actuator.pins act, congrArg Actuator.statLevel act⟩

/-- Settles O43: both TICKs write the duty of R96, which has the floor and rises with Temperature. -/
theorem runningDutyRisesWithTemperature : Obligations.RunningDutyRisesWithTemperature := by
  intro s warmer duty force st act above rises
  exact ⟨_, _, _, _, exec_eq .tick s, exec_eq .tick (s.setTemp warmer), after_tick_act_pwm st act above,
    after_tick_act_pwm (s := s.setTemp warmer) st act (above.trans rises), runningDuty_ge above,
    runningDuty_mono (t := s.setTemp warmer) rfl above rises⟩

/-- Settles O40: the pins and the status level are functions of the level registers. -/
theorem pwmOutputsShowTheRegisters : Obligations.PwmOutputsShowTheRegisters := by
  intro s duty force act
  exact ⟨congrArg Actuator.pins act, congrArg Actuator.statLevel act, rfl, rfl, rfl⟩

/-- Settles O41: one row of the table for each level, and no level drives both pins. -/
theorem twoStagePinsAreExclusive : Obligations.TwoStagePinsAreExclusive := by
  intro s level act
  have pins : s.outputs.pins = .twoStage level.pinHalf level.pinFull := congrArg Actuator.pins act
  have shown : s.outputs.statLevel = level.shown := congrArg Actuator.statLevel act
  rw [pins, shown]
  refine ⟨?_, ?_, ?_, ?_, fun both => not_pinHalf_and_pinFull level (Pins.twoStage.inj both)⟩
  all_goals
    rintro rfl
    exact ⟨rfl, rfl⟩

/-- Settles O44: the rescale is monotone, so it takes a minimum to a minimum, and 100 to 255. -/
theorem percentAndDutyClampsAgree : Obligations.PercentAndDutyClampsAgree := by
  intro p
  rw [duty8_mono.map_min, duty8_hundred]

/-- Settles O45: the table lists the duties of R120 and R121 for the 30 values of the band. -/
theorem referenceDutyTable : Obligations.ReferenceDutyTable := by
  intro s duty force k d st build act temp listed
  change ((List.range 30).map referenceDuty)[k]? = some d at listed
  obtain ⟨in_table, entry⟩ := List.getElem?_eq_some_iff.mp listed
  have in_band : k < 30 := by simpa using in_table
  rw [List.getElem_map, List.getElem_range, ← runningDuty_reference build in_band temp] at entry
  have low : s.build.low = 298 := build ▸ rfl
  refine ⟨_, exec_eq .tick s, ?_⟩
  rw [after_tick_act_pwm st act (by omega), ← entry, BitVec.ofNat_toNat, BitVec.setWidth_eq]

end Sys2Proof.Proofs
end

section
/-! SUPPORT. What of the past a RESET sees (60_exceptions.md R136; 70_reset_and_hazards.md R151). -/

namespace Sys2Proof.Machine

/-- A RESET sees no event before it: it reads the build, the variant and the waiting events only, and no event changes
these. -/
theorem resetBlock_after (i : Instr) (s : State) : (after i s).resetBlock = s.resetBlock := by
  obtain ⟨build, variant, pending⟩ := after_keeps i s
  simp only [State.resetBlock, build, variant, pending]

/-- A RESET sees no run before it. -/
theorem resetBlock_afterAll (past : List Instr) (s : State) : (afterAll past s).resetBlock = s.resetBlock :=
  afterAll_keeps (P := fun t => t.resetBlock = s.resetBlock)
    (fun i _ t same => (resetBlock_after i t).trans same) rfl

end Sys2Proof.Machine
end

section
/-! PROOF. The statements of 60_exceptions.md: no error outcome, and what a RESET forgets. -/

namespace Sys2Proof.Proofs

open Sys2Proof Sys2Proof.Machine

/-- Settles O47: the RESET leaves the same state with the past run before it and without, and the future goes on from
there. -/
theorem resetForgetsThePast : Obligations.ResetForgetsThePast := by
  intro past future s
  have forgets : afterAll (past ++ .reset :: future) s = afterAll (.reset :: future) s :=
    calc afterAll (past ++ .reset :: future) s
      _ = afterAll future (afterAll past s).resetBlock := afterAll_append past (.reset :: future) s
      _ = afterAll future s.resetBlock := by rw [resetBlock_afterAll]
  rw [runEvents_eq, runEvents_eq, forgets]

/-- Settles O9: a step answers the state its event leaves, with that event taken off the queue. -/
theorem noStepHasAnErrorOutcome : Obligations.NoStepHasAnErrorOutcome :=
  ⟨fun _ => ⟨_, step_next_iff.mpr rfl⟩, fun i s => ⟨_, exec_eq i s⟩⟩

end Sys2Proof.Proofs
end

section
/-! SUPPORT. What drives the fan at nothing, and runs without samples from reset (70_reset_and_hazards.md R150, R164). -/

namespace Sys2Proof.Machine

/-! ## The fan off -/

/-- Below the low threshold the output is turned off (41_controller.md R95). -/
theorem drivesNothing_stopped (a : Actuator) : a.stopped.drivesNothing := by
  cases a with
  | pwm duty force => rfl
  | twoStage level => exact ⟨rfl, rfl⟩

/-- The reset value of the level registers is that of an output turned off. -/
theorem stopped_atReset (variant : Config.Variant) :
    (Actuator.atReset variant).stopped = Actuator.atReset variant := by
  cases variant <;> rfl

theorem drivesNothing_atReset (variant : Config.Variant) : (Actuator.atReset variant).drivesNothing :=
  stopped_atReset variant ▸ drivesNothing_stopped (Actuator.atReset variant)

/-- The status level of a fan that is off is 0 (60_exceptions.md R142). -/
theorem statLevel_of_drivesNothing {a : Actuator} (off : a.drivesNothing) : a.statLevel = 0 := by
  cases a with
  | pwm duty force => exact off
  | twoStage level =>
    obtain ⟨not_half, not_full⟩ := off
    cases level with
    | stopped => rfl
    | half => exact absurd not_half (by decide)
    | full => exact absurd not_full (by decide)
    | unused => rfl

/-! ## No sample since reset -/

/-- Without a RESET and a SAMPLE, Temperature stays what it was (40_sampler.md R80). -/
theorem afterAll_temp_of_no_samples {events : List Instr} (no_reset : .reset ∉ events)
    (no_samples : rawSamples events = []) (s : State) : (afterAll events s).temp = s.temp := by
  have alike := samplerView_afterAll_eq_samples no_reset (rfl : s.samplerView = s.samplerView)
  rw [no_samples] at alike
  exact congrArg SamplerView.temp alike

/-- 34 TICKs after reset with no sample, the controller is about to decide for the first time, from the sentinel
(41_controller.md R102). -/
theorem afterAll_atFirstDecision_of_no_samples (variant : Config.Variant) (build : Config.Build) {events : List Instr}
    (no_reset : .reset ∉ events) (no_samples : rawSamples events = []) (ticks : tickCount events = 34) :
    (afterAll events (State.resetFor variant build)).AtFirstDecision variant build 0 := by
  have startup : (State.resetFor variant build).st = .startup := rfl
  obtain ⟨running, spin, act⟩ := (afterAll_spinUpAt no_reset startup).regulates ticks
  have sentinel := afterAll_temp_of_no_samples no_reset no_samples (State.resetFor variant build)
  exact ⟨running, BitVec.eq_of_toNat_eq spin, act, afterAll_build _ _, congrArg BitVec.toInt sentinel⟩

/-- The first decision, made below the low threshold, turns the fan off (41_controller.md R95). -/
theorem State.AtFirstDecision.tick_turns_off {s : State} {variant : Config.Variant} {build : Config.Build} {mean : Int}
    (h : s.AtFirstDecision variant build mean) (below : mean < build.low) :
    (after .tick s).st = .off ∧ (after .tick s).act.drivesNothing := by
  obtain ⟨running, -, -, rfl, rfl⟩ := h
  rw [after_tick_st, after_tick_act, controllerArm_running_below s running below]
  exact ⟨rfl, drivesNothing_stopped s.act⟩

end Sys2Proof.Machine
end

section
/-! PROOF. The statements of 70_reset_and_hazards.md: what a RESET writes, and the cold start without a sample. -/

namespace Sys2Proof.Proofs

open Sys2Proof Sys2Proof.Machine

/-- Settles O39: 34 TICKs spin up and leave the sentinel, and the next TICK decides from it. -/
theorem coldStartWithoutSamplesTurnsOff : Obligations.ColdStartWithoutSamplesTurnsOff := by
  intro variant build events no_reset no_samples ticks low_pos
  have decides := afterAll_atFirstDecision_of_no_samples variant build no_reset no_samples ticks
  obtain ⟨off, stopped⟩ := decides.tick_turns_off low_pos
  obtain ⟨-, -, act, -, temp⟩ := decides
  refine ⟨_, _, runEvents_eq events _, ?_, exec_eq .tick _, ?_, off, stopped⟩
  · exact act ▸ drivesFull_regulated_forced (Actuator.atReset variant)
  · exact (controllerArm_temp _).trans ((temp_zero_iff _).mpr temp)

/-- Settles O46: the reset block register by register, with the level registers of the variant, which drive nothing. -/
theorem resetSetsEveryRegister : Obligations.ResetSetsEveryRegister := by
  intro s
  have off : s.resetBlock.act.drivesNothing := drivesNothing_atReset s.variant
  exact ⟨s.resetBlock, exec_eq .reset s, rfl, rfl, rfl, rfl, rfl, rfl, congrArg Actuator.atReset,
    congrArg Actuator.atReset, rfl, rfl, rfl, off, rfl, rfl, statLevel_of_drivesNothing off⟩

end Sys2Proof.Proofs
end
